-- ==== Sys2Proof/Word.lean ====
section
/-! DEFINITION. The word types of the part: a byte of a frame or table entry, and a timebase value. -/

namespace Sys2Proof

/-- One data byte of a frame or of a table entry (byte 0 is the first on the wire, 00_scope 6.2). -/
abbrev Byte := BitVec 8

/-- A timebase value: a 32-bit count of milliseconds that wraps (R1). -/
abbrev Time := BitVec 32

end Sys2Proof
end

