-- ==== Sys2Proof/Config.lean ====
section
/-! DEFINITION. What the part fixes (part code, revision, capacities, identifiers, periods) and the one
free value: the order in which the EXTRACT and CAPTURE actions of one frame reach channel E. -/

namespace Sys2Proof.Config

/-- The part code that IDENTIFY item 0 reports (00_scope section 1, R185). -/
def partCode : Nat := 0x0418
/-- The revision that IDENTIFY item 0 reports (00_scope section 1, R185). -/
def revision : Nat := 0x02
/-- The node number after a cold reset is this plus the strap value (R205). -/
def nodeBase : Nat := 0x40

/-- Capacity of the FAT, in entries (R8). -/
def fatEntries : Nat := 48
/-- Capacity of the SXT, in entries (R24). -/
def sxtEntries : Nat := 16
/-- Greatest number of grid points of a curve (R41, R52). -/
def curvePoints : Nat := 24
/-- Capacity of the speed band table, in entries (R64). -/
def bandEntries : Nat := 8
/-- Capacity of the material table, in entries (R126). -/
def materialEntries : Nat := 16
/-- Number of operator lines (R144). -/
def lineEntries : Nat := 4
/-- Bytes of the load assembly buffer (R189). -/
def assemblyBytes : Nat := 512

/-- Capacity of channel G (R159). -/
def capG : Nat := 1
/-- Capacity of channel E (R159). -/
def capE : Nat := 16
/-- Capacity of channel P (R159). -/
def capP : Nat := 32
/-- Capacity of channel M (R159). -/
def capM : Nat := 8
/-- Capacity of channel C (R159). -/
def capC : Nat := 16
/-- Capacity of the machine response queue (R5). -/
def capMachine : Nat := 4
/-- Capacity of the window sample buffer (R67). -/
def capSamples : Nat := 128
/-- Greatest number of bucket records in a load (R124). -/
def capBuckets : Nat := 16
/-- Greatest number of summaries in the completed-loads list (R125). -/
def capCompleted : Nat := 8

/-- The load assembly timeout in ms (R190, R191). -/
def assemblyTimeout : Nat := 500
/-- The silence of a port in ms (R171). -/
def silenceTime : Nat := 1000
/-- The period of the encoder's offer tick in ms (R143). -/
def offerPeriod : Nat := 10
/-- FAILED attempts in a row that drop a frame (R170). -/
def failLimit : Nat := 8
/-- Drops in a row that silence a port (R171). -/
def dropLimit : Nat := 3

/-- Management request identifier of node 0 (section 11.1). -/
def requestBase : BitVec 29 := 0x0C7E0000#29
/-- Management response identifier of node 0 (section 11.1). -/
def responseBase : BitVec 29 := 0x0C7F0000#29
/-- Display frame identifier of kind 0 and node 0 (R159). -/
def displayBase : BitVec 29 := 0x0C7A0000#29

/-- FREE VALUE (DESIGN CHOICE, log entry 3). Where one frame's entry both extracts and captures, section 1.4
gives no order between the two actions; it can be seen on channel E alone, and only when the copy uses up the
capture budget. The n-th such case captures first when this is true. -/
opaque captureFirst : Nat → Bool

end Sys2Proof.Config
end

