-- ==== Sys2Proof/Syntax.lean ====
section
/-! DEFINITION. The commands of the part: one constructor of `Instr` for each row of spec/opcode_table.json,
with the row's operands. -/

namespace Sys2Proof

/-- The two CAN ports (R210, enumeration 'port'). -/
inductive Port
  | cab
  | machine
deriving DecidableEq, Repr

/-- The five signal roles (section 2.1). -/
inductive Role
  | head
  | rod
  | boom
  | pitch
  | tilt
deriving DecidableEq, Repr

/-- A CAN identifier with its format (R2). -/
inductive CanId
  | extended (id : BitVec 29)
  | standard (id : BitVec 11)
deriving DecidableEq, Repr

/-- A frame's kind: DATA with its bytes, byte 0 first, or REMOTE with the requested length (R2). -/
inductive FrameBody
  | data (bytes : List Byte)
  | remote (length : Nat)
deriving DecidableEq, Repr

/-- One classic CAN frame (R2). -/
structure Frame where
  id : CanId
  body : FrameBody
deriving DecidableEq, Repr

/-- One arrival at MPORT: the frame and the timebase value when its reception completed (R2). -/
structure Arrival where
  frame : Frame
  time : Time
deriving DecidableEq, Repr

/-- The pin levels a cold reset reads: the node straps NS0..NS2, the BAUD strap (as the bit rate it selects,
in kbit/s), the encoder phases and the four operator lines (00_scope section 7, R143, R146). -/
structure ResetPins where
  straps : Fin 8
  baud : Nat
  qa : Bool
  qb : Bool
  lines : Vector Bool 4
deriving DecidableEq, Repr

/-- The commands, one constructor per row of the opcode table. The rows IDENTIFY to RESTART,
UNKNOWN_COMMAND and SHORT_REQUEST are management requests that MGT is given from `port`, with `tag` (R183);
their other operands are the argument fields of R211, of the width the layout gives, so that every value a
request can carry is a value here. -/
inductive Instr
  /-- COLD_RESET (R182): power-up or the RESET line, with the pin levels read at the reset. -/
  | coldReset (pins : ResetPins)
  /-- TIMEBASE_TICK (R1). -/
  | timebaseTick
  /-- MACHINE_ARRIVAL (R2). -/
  | machineArrival (arrival : Arrival)
  /-- INTERVAL_TIMER_EXPIRY (R18) of one FAT entry. -/
  | intervalTimerExpiry (entry : Fin 48)
  /-- FRESHNESS_EXPIRY (R36) of one slot. -/
  | freshnessExpiry (role : Role)
  /-- LOSS_EXPIRY (R36) of one slot. -/
  | lossExpiry (role : Role)
  /-- WINDOW_TIMEOUT (R69). -/
  | windowTimeout
  /-- ENCODER_OFFER_TICK (R152). -/
  | encoderOfferTick
  /-- PHASE_CHANGE (R150): the phase levels after the change. -/
  | phaseChange (qa qb : Bool)
  /-- INDEX_PULSE (R151): a rising level of QI. -/
  | indexPulse
  /-- LINE_LEVEL_CHANGE (R146): a line's raw level after the change. -/
  | lineLevelChange (line : Fin 4) (level : Bool)
  /-- STABILITY_EXPIRY (R146) of one line. -/
  | stabilityExpiry (line : Fin 4)
  /-- CAB_ARRIVAL (R167). -/
  | cabArrival (frame : Frame)
  /-- ARBITER_TAKE (R168). -/
  | arbiterTake
  /-- MACHINE_TX_TAKE (R5). -/
  | machineTxTake
  /-- ATTEMPT_SENT (R169) at one port. -/
  | attemptSent (port : Port)
  /-- ATTEMPT_LOST (R169) at one port. -/
  | attemptLost (port : Port)
  /-- ATTEMPT_FAILED (R169) at one port. -/
  | attemptFailed (port : Port)
  /-- SILENCE_END (R171) of one port. -/
  | silenceEnd (port : Port)
  /-- GAUGE_TIMER_EXPIRY (R177). -/
  | gaugeTimerExpiry
  /-- IDENTIFY (R185). -/
  | identify (port : Port) (tag item : Byte)
  /-- QUERY_STATUS (R185, R213). -/
  | queryStatus (port : Port) (tag page item part : Byte)
  /-- READ_ENTRY (R185). -/
  | readEntry (port : Port) (tag table index chunk : Byte)
  /-- QUERY_LOAD (R141, R213). -/
  | queryLoad (port : Port) (tag index page part : Byte)
  /-- QUERY_TOTALS (R137). -/
  | queryTotals (port : Port) (tag selector counter : Byte)
  /-- READ_ALERTS (R204). -/
  | readAlerts (port : Port) (tag : Byte)
  /-- SET_MODE (R198). -/
  | setMode (port : Port) (tag mode target runs : Byte)
  /-- OPEN_LOAD (R190). -/
  | openLoad (port : Port) (tag table first count : Byte)
  /-- LOAD_DATA (R191). -/
  | loadData (port : Port) (tag seq : Byte) (payload : Vector Byte 5)
  /-- CLOSE_LOAD (R192). -/
  | closeLoad (port : Port) (tag crc : Byte)
  /-- ABORT_LOAD (R194). -/
  | abortLoad (port : Port) (tag : Byte)
  /-- LOAD_TIMEOUT (R195). -/
  | loadTimeout
  /-- TARE (R81, R186). -/
  | tare (port : Port) (tag : Byte)
  /-- CANCEL_LAST (R133, R186). -/
  | cancelLast (port : Port) (tag : Byte)
  /-- NEXT_TRUCK (R135, R186). -/
  | nextTruck (port : Port) (tag : Byte)
  /-- SHIFT_CLOSE (R138, R186). -/
  | shiftClose (port : Port) (tag : Byte)
  /-- SET_TARGET (R132, R186). -/
  | setTarget (port : Port) (tag : Byte) (target : BitVec 24) (tolerance : BitVec 16)
  /-- SET_MATERIAL (R136, R186). -/
  | setMaterial (port : Port) (tag index : Byte)
  /-- CHANNEL with action HOLD (R160, R187); `channel` is the channel's E8 code. -/
  | hold (port : Port) (tag channel : Byte)
  /-- CHANNEL with action RELEASE (R160, R187). -/
  | release (port : Port) (tag channel : Byte)
  /-- CHANNEL with action BLOCK (R161, R187). -/
  | block (port : Port) (tag channel : Byte)
  /-- CHANNEL with action UNBLOCK (R160, R187). -/
  | unblock (port : Port) (tag channel : Byte)
  /-- CHANNEL with action TOGGLE_SET (R174, R187). -/
  | toggleSet (port : Port) (tag channel : Byte)
  /-- CHANNEL with action TOGGLE_CLEAR (R174, R187). -/
  | toggleClear (port : Port) (tag channel : Byte)
  /-- SET_CAPTURE (R175, R187). -/
  | setCapture (port : Port) (tag : Byte) (budget : BitVec 16)
  /-- SET_NOTICES (R203). -/
  | setNotices (port : Port) (tag : Byte) (mask : BitVec 16)
  /-- CLEAR_ALERTS (R204). -/
  | clearAlerts (port : Port) (tag : Byte) (mask : BitVec 16)
  /-- SET_NODE (R206). -/
  | setNode (port : Port) (tag node : Byte)
  /-- RESTART (R207). -/
  | restart (port : Port) (tag : Byte)
  /-- UNKNOWN_COMMAND (R183): a request of 8 bytes whose command byte `code` names no command. -/
  | unknownCommand (port : Port) (code tag : Byte)
  /-- SHORT_REQUEST (R183): a request of fewer than 8 data bytes. -/
  | shortRequest (port : Port) (bytes : List Byte)
deriving DecidableEq, Repr

end Sys2Proof
end

