-- ==== Sys2Proof/Machine/Bytes.lean ====
section
/-! DEFINITION. Arithmetic and byte order shared by the whole model: the rounded quotient, clamping and
saturation, little-endian fields, packed frame words, and the frame-bit placement of SXT fields. -/

namespace Sys2Proof.Machine

/-- The quotient rounded to nearest, a tie away from zero (00_scope 6.3). A divisor of 0 gives 0; no rule
divides by 0 (log entry 12). -/
def rdiv (n d : Int) : Int :=
  let q : Nat := (2 * n.natAbs + d.natAbs) / (2 * d.natAbs)
  if decide (n < 0) = decide (d < 0) then (q : Int) else -(q : Int)

/-- A value outside `lo..hi` replaced by the nearer limit (00_scope 6.5). -/
def clamp (lo hi v : Int) : Int := if v < lo then lo else if hi < v then hi else v

/-- A counter that would pass `max` stays at `max` (00_scope 6.5). -/
def satAdd (max a b : Nat) : Nat := min max (a + b)

/-- The greatest value of a 16-bit counter. -/
def max16 : Nat := 65535
/-- The greatest value of a 32-bit counter. -/
def max32 : Nat := 4294967295

/-! ### Multi-byte fields, least significant byte first (R209) -/

/-- `k` bytes of an unsigned value, least significant first. -/
def leBytes : Nat → Nat → List Byte
  | 0, _ => []
  | k + 1, v => BitVec.ofNat 8 v :: leBytes k (v / 256)

/-- The unsigned value of bytes, least significant first. -/
def leNat : List Byte → Nat
  | [] => 0
  | b :: bs => b.toNat + 256 * leNat bs

/-- `k` bytes of a two's complement value, least significant first (R208). -/
def leInt (k : Nat) (v : Int) : List Byte := leBytes k (v % (256 ^ k : Nat)).toNat

/-- The two's complement value of bytes, least significant first (R208). -/
def leSigned (bs : List Byte) : Int :=
  let n := leNat bs
  if 2 * n < 256 ^ bs.length then (n : Int) else (n : Int) - (256 ^ bs.length : Nat)

/-- An unsigned field of `k` bytes, saturated to its range (R209). -/
def uField (k : Nat) (v : Nat) : List Byte := leBytes k (min v (256 ^ k - 1))

/-- An unsigned field of `k` bytes that may be absent: all ones when absent, and saturated below that
code when present (R208, R209). -/
def uField? (k : Nat) (v : Option Nat) : List Byte :=
  match v with
  | some n => leBytes k (min n (256 ^ k - 2))
  | none => leBytes k (256 ^ k - 1)

/-- A signed field of `k` bytes that may be absent: the most negative code when absent, and saturated above
that code when present (R208, R209). -/
def sField? (k : Nat) (v : Option Int) : List Byte :=
  let top : Int := (256 ^ k / 2 : Nat)
  match v with
  | some i => leInt k (clamp (1 - top) (top - 1) i)
  | none => leInt k (-top)

/-- A timebase value as a T field (R208). -/
def tField (t : Time) : List Byte := leBytes 4 t.toNat

/-- A timebase value that may be absent, as a T? field (R208). -/
def tField? (t : Option Time) : List Byte :=
  match t with
  | some v => 1 :: tField v
  | none => [0, 0, 0, 0, 0]

/-- An E8 or one-bit field: its code in one byte. -/
def eField (code : Nat) : List Byte := [BitVec.ofNat 8 code]

/-- An E8 field that may be absent (R208). -/
def eField? (code : Option Nat) : List Byte := eField (code.getD 0xFF)

/-- A truth value as an E8 code (R210: low, inactive, off, DISARMED are 0). -/
def bField (b : Bool) : List Byte := eField b.toNat

/-- A flag set as an F8 field: bit k is the k-th flag (R208). -/
def fField (flags : List Bool) : List Byte :=
  eField (flags.foldr (fun b n => b.toNat + 2 * n) 0)

/-- Byte `i` of a list, 0 past its end (R213: bytes past the end read 0). -/
def byteAt (bs : List Byte) (i : Nat) : Byte := bs.getD i 0

/-- The bytes at offsets `i` to `i + k - 1`. -/
def slice (bs : List Byte) (i k : Nat) : List Byte := (bs.drop i).take k

/-- The 5-byte piece `part` of a record, zero-filled past the record's end (R213). -/
def piece (bs : List Byte) (part : Nat) : List Byte :=
  (List.range 5).map fun i => byteAt bs (part * 5 + i)

/-- The record has a part of this number: its last part is (L + 4) / 5 rounded down, minus one (R213). -/
def hasPart (length part : Nat) : Bool := decide (part < (length + 4) / 5)

/-! ### Packed frame words (R209, R212) -/

/-- Fields given as (width, value) from word bit 0 upward, packed into one number; a value is cut to its
width. -/
def packFields : List (Nat × Nat) → Nat
  | [] => 0
  | (w, v) :: rest => v % 2 ^ w + 2 ^ w * packFields rest

/-- The 8 data bytes of a frame word: word bit 0 is bit 0 of byte 0 (R209). -/
def wordBytes (fields : List (Nat × Nat)) : List Byte := leBytes 8 (packFields fields)

/-- A quantity in a coarser unit: rounded quotient, saturated to 0..`max` (R209). -/
def coarse (unit max : Nat) (v : Nat) : Nat := min (rdiv v unit).toNat max

/-- A signed value in `w` bits of a frame word, two's complement. -/
def signedBits (w : Nat) (v : Int) : Nat := (v % (2 ^ w : Nat)).toNat

/-- Word bit 63 of an 8-byte frame, bit 7 of byte 7: the toggle (R212). -/
def toggleOf (bytes : List Byte) : Bool := (byteAt bytes 7).getLsbD 7

/-- The toggle written into an 8-byte frame (R173). -/
def stampToggle (v : Bool) (bytes : List Byte) : List Byte :=
  bytes.set 7 ((byteAt bytes 7 &&& 0x7F) ||| (if v then 0x80 else 0x00))

/-! ### Field placement in a frame (R30) -/

/-- How a field is laid out across the bytes of a frame (R24). -/
inductive ByteOrder
  | little
  | big
deriving DecidableEq, Repr

/-- The frame bits of a BIG field from its most significant bit down: the next bit is the next lower bit of the
byte, and bit 0 of byte b is followed by bit 7 of byte b + 1 (R30). -/
def bigBits (start : Nat) : Nat → List Nat
  | 0 => []
  | n + 1 => start :: bigBits (if start % 8 = 0 then start + 15 else start - 1) n

/-- The frame bits of a field, most significant first (R30). -/
def fieldBits (order : ByteOrder) (start length : Nat) : List Nat :=
  match order with
  | .little => (List.range length).reverse.map (start + ·)
  | .big => bigBits start length

/-- The field lies within bytes 0 to 7 (R25, R30). -/
def fieldFits (order : ByteOrder) (start length : Nat) : Bool :=
  (fieldBits order start length).all fun k => decide (k < 64)

/-- Every byte the field touches is among `n` data bytes (R30). -/
def fieldPresent (order : ByteOrder) (start length n : Nat) : Bool :=
  (fieldBits order start length).all fun k => decide (k / 8 < n)

/-- Frame bit `k`: bit (k mod 8) of byte floor(k / 8) (R30). -/
def frameBit (bytes : List Byte) (k : Nat) : Bool := (byteAt bytes (k / 8)).getLsbD (k % 8)

/-- The field's bits read as an unsigned number (R30, R31). -/
def fieldNat (order : ByteOrder) (start length : Nat) (bytes : List Byte) : Nat :=
  (fieldBits order start length).foldl (fun acc k => 2 * acc + (frameBit bytes k).toNat) 0

/-- The raw count of a placed field: unsigned, or two's complement of `length` bits (R31). -/
def rawCount (signed : Bool) (length n : Nat) : Int :=
  if signed && decide (2 ^ length ≤ 2 * n) then (n : Int) - (2 ^ length : Nat) else n

/-! ### CRC-8 (R215) -/

/-- One shift of the CRC register: the dropped top bit decides the combination with 0x07. -/
def crcShift (r : Byte) : Byte := if r.getLsbD 7 then (r <<< 1) ^^^ 0x07 else r <<< 1

/-- One byte combined into the CRC register and shifted eight times. -/
def crcByte (r b : Byte) : Byte :=
  crcShift (crcShift (crcShift (crcShift (crcShift (crcShift (crcShift (crcShift (r ^^^ b))))))))

/-- The CRC-8 of a byte list, polynomial x^8+x^2+x+1, initial value 0 (R215). -/
def crc8 (bytes : List Byte) : Byte := bytes.foldl crcByte 0

end Sys2Proof.Machine
end

