-- ==== Sys2Proof/WellFormed.lean ====
section
/-! DEFINITION. The checks a command meets when a bus, a pin or a requester can really send it. `exec` does not
look at them: it is total on every term. -/

namespace Sys2Proof

/-- A frame of classic CAN: 0..8 data bytes, or a requested length of 0..8 (R2). -/
def Frame.wellFormed (f : Frame) : Bool :=
  match f.body with
  | .data bytes => decide (bytes.length ≤ 8)
  | .remote length => decide (length ≤ 8)

/-- The BAUD strap selects 125..1,000 kbit/s (00_scope section 1). -/
def ResetPins.wellFormed (p : ResetPins) : Bool :=
  decide (125 ≤ p.baud) && decide (p.baud ≤ 1000)

/-- The command codes of R211; a request with any other code is an UNKNOWN_COMMAND. -/
def commandCodes : List Byte :=
  [0x01, 0x02, 0x03, 0x04, 0x05, 0x06, 0x10, 0x11, 0x12, 0x13, 0x14,
   0x20, 0x21, 0x22, 0x23, 0x24, 0x25, 0x30, 0x31, 0x32, 0x33, 0x34, 0x35]

/-- The code names a command of R211. -/
def isCommandCode (code : Byte) : Bool := commandCodes.contains code

/-- A command that can be sent: frames of classic CAN, a bit rate the strap selects, an UNKNOWN_COMMAND whose
code names no command, a SHORT_REQUEST of fewer than 8 bytes. -/
def Instr.wellFormed (i : Instr) : Bool :=
  match i with
  | .coldReset pins => pins.wellFormed
  | .machineArrival a => a.frame.wellFormed
  | .cabArrival f => f.wellFormed
  | .unknownCommand _ code _ => !isCommandCode code
  | .shortRequest _ bytes => decide (bytes.length < 8)
  | .timebaseTick | .intervalTimerExpiry _ | .freshnessExpiry _ | .lossExpiry _ | .windowTimeout
  | .encoderOfferTick | .phaseChange _ _ | .indexPulse | .lineLevelChange _ _ | .stabilityExpiry _
  | .arbiterTake | .machineTxTake | .attemptSent _ | .attemptLost _ | .attemptFailed _ | .silenceEnd _
  | .gaugeTimerExpiry | .identify _ _ _ | .queryStatus _ _ _ _ _ | .readEntry _ _ _ _ _
  | .queryLoad _ _ _ _ _ | .queryTotals _ _ _ _ | .readAlerts _ _ | .setMode _ _ _ _ _
  | .openLoad _ _ _ _ _ | .loadData _ _ _ _ | .closeLoad _ _ _ | .abortLoad _ _ | .loadTimeout
  | .tare _ _ | .cancelLast _ _ | .nextTruck _ _ | .shiftClose _ _ | .setTarget _ _ _ _
  | .setMaterial _ _ _ | .hold _ _ _ | .release _ _ _ | .block _ _ _ | .unblock _ _ _
  | .toggleSet _ _ _ | .toggleClear _ _ _ | .setCapture _ _ _ | .setNotices _ _ _ | .clearAlerts _ _ _
  | .setNode _ _ _ | .restart _ _ => true

end Sys2Proof
end

