-- ==== Sys2Proof/Decode.lean ====
section
/-! DEFINITION. The words of spec/opcode_table.json, which carry no bits, and the management request layout of R211: the
row that eight request bytes name, and the request bytes of a row. -/

namespace Sys2Proof

/-- The command that a word spells by the table's bits: no row of spec/opcode_table.json gives bits, so none
(log entry 16). -/
def decodeTableWord (_nbits _w : Nat) : Option Instr := none

open Machine in
/-- The row of a CHANNEL request (code 0x30) by its action code; none when the action is unknown, which is answered
BAD_ARG (R187, R210). -/
def decodeChannel (port : Port) (tag channel : Byte) (action : Nat) : Option Instr :=
  match action with
  | 0 => some (.hold port tag channel)
  | 1 => some (.release port tag channel)
  | 2 => some (.block port tag channel)
  | 3 => some (.unblock port tag channel)
  | 4 => some (.toggleSet port tag channel)
  | 5 => some (.toggleClear port tag channel)
  | _ => none

open Machine in
/-- The row that a management request of 8 bytes names, with its arguments at the offsets of R211; argument bytes
that a command does not use are ignored (R209). None is a CHANNEL request with an unknown action. -/
def decodeFull (port : Port) (b : List Byte) : Option Instr :=
  let tag := byteAt b 1
  match (byteAt b 0).toNat with
  | 0x01 => some (.identify port tag (byteAt b 2))
  | 0x02 => some (.queryStatus port tag (byteAt b 2) (byteAt b 3) (byteAt b 4))
  | 0x03 => some (.readEntry port tag (byteAt b 2) (byteAt b 3) (byteAt b 4))
  | 0x04 => some (.queryLoad port tag (byteAt b 2) (byteAt b 3) (byteAt b 4))
  | 0x05 => some (.queryTotals port tag (byteAt b 2) (byteAt b 3))
  | 0x06 => some (.readAlerts port tag)
  | 0x10 => some (.setMode port tag (byteAt b 2) (byteAt b 3) (byteAt b 4))
  | 0x11 => some (.openLoad port tag (byteAt b 2) (byteAt b 3) (byteAt b 4))
  | 0x12 => some (.loadData port tag (byteAt b 2)
      #v[byteAt b 3, byteAt b 4, byteAt b 5, byteAt b 6, byteAt b 7])
  | 0x13 => some (.closeLoad port tag (byteAt b 2))
  | 0x14 => some (.abortLoad port tag)
  | 0x20 => some (.tare port tag)
  | 0x21 => some (.cancelLast port tag)
  | 0x22 => some (.nextTruck port tag)
  | 0x23 => some (.shiftClose port tag)
  | 0x24 => some (.setTarget port tag (byteAt b 4 ++ byteAt b 3 ++ byteAt b 2) (byteAt b 6 ++ byteAt b 5))
  | 0x25 => some (.setMaterial port tag (byteAt b 2))
  | 0x30 => decodeChannel port tag (byteAt b 2) (byteAt b 3).toNat
  | 0x31 => some (.setCapture port tag (byteAt b 3 ++ byteAt b 2))
  | 0x32 => some (.setNotices port tag (byteAt b 3 ++ byteAt b 2))
  | 0x33 => some (.clearAlerts port tag (byteAt b 3 ++ byteAt b 2))
  | 0x34 => some (.setNode port tag (byteAt b 2))
  | 0x35 => some (.restart port tag)
  | _ => some (.unknownCommand port (byteAt b 0) tag)

/-- The row that the data bytes of a management request name (R183, R211): a request of fewer than 8 bytes is a
SHORT_REQUEST. None is a CHANNEL request with an unknown action. -/
def decodeRequest (port : Port) (bytes : List Byte) : Option Instr :=
  if bytes.length < 8 then some (.shortRequest port bytes) else decodeFull port bytes

/-- A request of 8 bytes: a code, a tag and up to six argument bytes, the unused ones 0. -/
def requestBytes (code tag : Byte) (args : List Byte) : List Byte :=
  [code, tag] ++ (List.range 6).map (Machine.byteAt args)

/-- The low and the high byte of a 16-bit argument (R209). -/
def wordArgs (v : BitVec 16) : List Byte := [v.setWidth 8, (v >>> 8).setWidth 8]

/-- The port and the data bytes of the management request that a row stands for (R211); none for the rows that are no
request. -/
def encodeRequest (i : Instr) : Option (Port × List Byte) :=
  match i with
  | .identify p tag item => some (p, requestBytes 0x01 tag [item])
  | .queryStatus p tag page item part => some (p, requestBytes 0x02 tag [page, item, part])
  | .readEntry p tag table index chunk => some (p, requestBytes 0x03 tag [table, index, chunk])
  | .queryLoad p tag index page part => some (p, requestBytes 0x04 tag [index, page, part])
  | .queryTotals p tag selector counter => some (p, requestBytes 0x05 tag [selector, counter])
  | .readAlerts p tag => some (p, requestBytes 0x06 tag [])
  | .setMode p tag mode target runs => some (p, requestBytes 0x10 tag [mode, target, runs])
  | .openLoad p tag table first count => some (p, requestBytes 0x11 tag [table, first, count])
  | .loadData p tag seq payload => some (p, requestBytes 0x12 tag (seq :: payload.toList))
  | .closeLoad p tag crc => some (p, requestBytes 0x13 tag [crc])
  | .abortLoad p tag => some (p, requestBytes 0x14 tag [])
  | .tare p tag => some (p, requestBytes 0x20 tag [])
  | .cancelLast p tag => some (p, requestBytes 0x21 tag [])
  | .nextTruck p tag => some (p, requestBytes 0x22 tag [])
  | .shiftClose p tag => some (p, requestBytes 0x23 tag [])
  | .setTarget p tag target tolerance =>
    some (p, requestBytes 0x24 tag
      ([target.setWidth 8, (target >>> 8).setWidth 8, (target >>> 16).setWidth 8] ++ wordArgs tolerance))
  | .setMaterial p tag index => some (p, requestBytes 0x25 tag [index])
  | .hold p tag channel => some (p, requestBytes 0x30 tag [channel, 0])
  | .release p tag channel => some (p, requestBytes 0x30 tag [channel, 1])
  | .block p tag channel => some (p, requestBytes 0x30 tag [channel, 2])
  | .unblock p tag channel => some (p, requestBytes 0x30 tag [channel, 3])
  | .toggleSet p tag channel => some (p, requestBytes 0x30 tag [channel, 4])
  | .toggleClear p tag channel => some (p, requestBytes 0x30 tag [channel, 5])
  | .setCapture p tag budget => some (p, requestBytes 0x31 tag (wordArgs budget))
  | .setNotices p tag mask => some (p, requestBytes 0x32 tag (wordArgs mask))
  | .clearAlerts p tag mask => some (p, requestBytes 0x33 tag (wordArgs mask))
  | .setNode p tag node => some (p, requestBytes 0x34 tag [node])
  | .restart p tag => some (p, requestBytes 0x35 tag [])
  | .unknownCommand p code tag => some (p, requestBytes code tag [])
  | .shortRequest p bytes => some (p, bytes)
  | .coldReset _ | .timebaseTick | .machineArrival _ | .intervalTimerExpiry _ | .freshnessExpiry _ | .lossExpiry _
  | .windowTimeout | .encoderOfferTick | .phaseChange _ _ | .indexPulse | .lineLevelChange _ _
  | .stabilityExpiry _ | .cabArrival _ | .arbiterTake | .machineTxTake | .attemptSent _ | .attemptLost _
  | .attemptFailed _ | .silenceEnd _ | .gaugeTimerExpiry | .loadTimeout => none

end Sys2Proof
end

