-- ==== Sys2Proof/Machine/State.lean ====
section
/-! DEFINITION. The state of the part as plain data, block by block (00_scope section 3), the queue of waiting
commands, the reasons a step can stop, and the state right after a cold reset. -/

namespace Sys2Proof.Machine

/-! ### Enumerations (R210) -/

/-- Operating mode (R182). -/
inductive Mode
  | config
  | run
  | calibrate
deriving DecidableEq, Repr

/-- Power state (R143). -/
inductive Power
  | running
  | parked
deriving DecidableEq, Repr

/-- A frame policy of FCL (R12). -/
inductive Policy
  | forward
  | drop
deriving DecidableEq, Repr

/-- State of a signal slot (R22). -/
inductive SignalState
  | unmapped
  | awaiting
  | valid
  | stale
  | lost
deriving DecidableEq, Repr

/-- Source of a signal slot (R22, R23). -/
inductive Source
  | none
  | sxt (index : Fin 16)
  | encoder
deriving DecidableEq, Repr

/-- Interpretation of the raw field (R24). -/
inductive Signedness
  | unsigned
  | signed
deriving DecidableEq, Repr

/-- Boom source of the Machine Record (R41). -/
inductive BoomSource
  | frame
  | encoder
deriving DecidableEq, Repr

/-- The two lift curves (R48). -/
inductive CurveName
  | empty
  | reference
deriving DecidableEq, Repr

/-- Curve state (R49). -/
inductive CurveState
  | none
  | eOnly
  | lOnly
  | valid
  | invalid
deriving DecidableEq, Repr

/-- Ending of a weighing window (R74). -/
inductive Ending
  | closed
  | reversed
  | timeout
  | dumped
  | lost
  | parked
  | mode
deriving DecidableEq, Repr

/-- Class of a window result (R74). -/
inductive ResultClass
  | weighed
  | unsteady
  | partialLift
  | notWeighed
deriving DecidableEq, Repr

/-- Reason of a NOT_WEIGHED result (R74), and NO_WINDOW of a bucket record (R117). -/
inductive Reason
  | few
  | signal
  | parked
  | mode
  | noWindow
deriving DecidableEq, Repr

/-- Kind of a window result (R74). -/
inductive ResultKind
  | bucket
  | tarePass
deriving DecidableEq, Repr

/-- Cycle state (R102). -/
inductive CycleState
  | idle
  | dig
  | lift
  | carry
  | lower
deriving DecidableEq, Repr

/-- Why a calibration run broke (R95). -/
inductive BreakReason
  | signal
  | gap
  | speed
  | reversed
  | parked
deriving DecidableEq, Repr

/-- The five cab channels (R159). -/
inductive Channel
  | g
  | e
  | p
  | m
  | c
deriving DecidableEq, Repr

/-- The eight loadable tables (R188). -/
inductive Table
  | fat
  | sxt
  | machine
  | curveE
  | curveL
  | bands
  | material
  | lines
deriving DecidableEq, Repr

/-- Function of an operator line (R144). -/
inductive LineFunction
  | none
  | tip
  | tare
  | nextTruck
  | cancelLast
  | key
  | service
deriving DecidableEq, Repr

/-- Edge setting of an operator line (R144). -/
inductive LineEdge
  | rise
  | fall
  | both
deriving DecidableEq, Repr

/-- Homing state of the boom encoder (R143). -/
inductive Homing
  | unhomed
  | homed
deriving DecidableEq, Repr

/-- Who closed a load (R125). -/
inductive ClosedBy
  | auto
  | operator
  | management
deriving DecidableEq, Repr

/-- The alert flags that are raised (R202). -/
inductive Alert
  | signalLost
  | phaseError
  | overspeedLift
  | unsteadyBucket
  | overloadAlert
  | eventLost
  | txFault
  | portSilent
  | tareRefused
  | calInvalid
  | mgmtOverrun
  | loadAutoClosed
deriving DecidableEq, Repr

/-- Cause of a mode change in its NOTICE (R200). -/
inductive NoticeCause
  | command
  | deferred
  | completion
  | restart
deriving DecidableEq, Repr

/-- Status of a response (R184). -/
inductive Status
  | ok
  | deferred
  | refusedMode
  | badArg
  | notReady
  | empty
  | owned
  | noLoad
  | loadFailed
  | checkFailed
  | badEntry
  | conflict
  | unknown
deriving DecidableEq, Repr

/-! ### FCL: the frame classifier -/

/-- The loaded fields of a FAT entry (R8). The holding slot and the interval timer stand in `Fcl`. -/
structure FatEntry where
  enabled : Bool
  ident : BitVec 29
  mask : BitVec 29
  forward : Bool
  extract : Bool
  capture : Bool
  ref1 : Option (Fin 16)
  ref2 : Option (Fin 16)
  /-- Forward interval in ms. -/
  interval : Nat
deriving DecidableEq, Repr

/-- A FAT entry after a cold reset (R8). -/
def FatEntry.cold : FatEntry :=
  { enabled := false, ident := 0, mask := 0, forward := false, extract := false, capture := false,
    ref1 := none, ref2 := none, interval := 0 }

/-- The state of FCL (R8, R12). -/
structure Fcl where
  fat : Vector FatEntry 48
  /-- Per entry, the holding slot. -/
  held : Vector (Option Frame) 48
  /-- Per entry, the interval timer: IDLE, or RUNNING with its expiry time. -/
  timers : Vector (Option Time) 48
  zones : Vector Policy 8
  standard : Policy
deriving DecidableEq, Repr

/-- FCL after a cold reset (R21). -/
def Fcl.cold : Fcl :=
  { fat := Vector.replicate 48 FatEntry.cold, held := Vector.replicate 48 none,
    timers := Vector.replicate 48 none, zones := Vector.replicate 8 .forward, standard := .forward }

/-! ### SIG: the signal slots -/

/-- An SXT entry (R24). -/
structure SxtEntry where
  enabled : Bool
  role : Role
  start : Nat
  length : Nat
  order : ByteOrder
  signedness : Signedness
  multiplier : Int
  divisor : Nat
  offset : Int
  plausMin : Int
  plausMax : Int
  /-- Freshness timeout in ms. -/
  timeout : Nat
deriving DecidableEq, Repr

/-- An SXT entry after a cold reset (R24). -/
def SxtEntry.cold : SxtEntry :=
  { enabled := false, role := .head, start := 0, length := 1, order := .little, signedness := .unsigned,
    multiplier := 1, divisor := 1, offset := 0, plausMin := 0, plausMax := 0, timeout := 10 }

/-- One signal slot (R22). -/
structure Slot where
  source : Source
  state : SignalState
  value : Option Int
  stamp : Option Time
  fresh : Option Time
  loss : Option Time
  implausible : Bool
  short : Bool
  clamped : Bool
deriving DecidableEq, Repr

/-- An unmapped slot (R22, R40). -/
def Slot.cold : Slot :=
  { source := .none, state := .unmapped, value := none, stamp := none, fresh := none, loss := none,
    implausible := false, short := false, clamped := false }

/-- The state of SIG (R22, R24). -/
structure Sig where
  sxt : Vector SxtEntry 16
  head : Slot
  rod : Slot
  boom : Slot
  pitch : Slot
  tilt : Slot
  /-- Boom speed in cd/s; none is invalid. -/
  omega : Option Int
  /-- The previous BOOM value and its timestamp. -/
  prevBoom : Option (Int × Time)
deriving DecidableEq, Repr

/-- SIG after a cold reset (R40). -/
def Sig.cold : Sig :=
  { sxt := Vector.replicate 16 SxtEntry.cold, head := Slot.cold, rod := Slot.cold, boom := Slot.cold,
    pitch := Slot.cold, tilt := Slot.cold, omega := none, prevBoom := none }

/-! ### WEN: the weighing engine -/

/-- The Machine Record (R41). -/
structure MachineRecord where
  aHead : Nat
  aRod : Nat
  nCyl : Nat
  mRef : Nat
  theta0 : Int
  dTheta : Nat
  n : Nat
  calSpeed : Nat
  thetaLo : Int
  thetaHi : Int
  nMin : Nat
  trim : Nat
  spreadLimit : Nat
  windowTimeout : Nat
  omegaMin : Nat
  thetaDig : Int
  fDig : Nat
  h : Nat
  thetaDump : Int
  volume : Nat
  gaugePeriod : Nat
  boomSource : BoomSource
  encNum : Int
  encDen : Nat
  indexAngle : Int
  zones : Vector Policy 8
  standard : Policy
deriving DecidableEq, Repr

/-- One speed band (R64). -/
structure Band where
  upper : Nat
  correction : Int
deriving DecidableEq, Repr

/-- The rejection counts and the EXCESS count of a window (R60). -/
structure Counts where
  staleInput : Nat
  outside : Nat
  stall : Nat
  overspeed : Nat
  outOfRange : Nat
  excess : Nat
deriving DecidableEq, Repr

/-- The counts at an opening (R62). -/
def Counts.zero : Counts := ⟨0, 0, 0, 0, 0, 0⟩

/-- The items of an OPEN window (R60). -/
structure Window where
  openTime : Time
  timeout : Time
  highest : Int
  /-- Stored samples in arrival order: corrected mass and HEAD timestamp. -/
  samples : List (Int × Time)
  sum : Int
  counts : Counts
  /-- The overspeed marker. -/
  overspeed : Bool
deriving DecidableEq, Repr

/-- A window result (R74). -/
structure WindowResult where
  ending : Ending
  cls : ResultClass
  reason : Option Reason
  kind : ResultKind
  mean : Option Int
  mass : Option Nat
  belowZero : Bool
  overRange : Bool
  spread : Option Nat
  n : Nat
  t : Nat
  counts : Counts
  openTime : Time
  endTime : Time
deriving DecidableEq, Repr

/-- F and θ_eff of the latest sample that had an F, with its timestamp (R59). -/
structure LatestSample where
  force : Int
  theta : Option Int
  time : Time
deriving DecidableEq, Repr

/-- The run in progress of a calibration (R86). In RISING, `values` are the run values and their number is the
next point k. -/
inductive RunState
  | armed (start : Option (Int × Int))
  | rising (prevTheta prevForce highest : Int) (values : List Int)
deriving DecidableEq, Repr

/-- An ACTIVE calibration (R86). -/
structure Calibration where
  target : CurveName
  runs : Nat
  done : Nat
  sums : List Int
  run : RunState
  broken : Nat
deriving DecidableEq, Repr

/-- The state of WEN (R42, R48, R60, R64, R86). -/
structure Wen where
  /-- ABSENT is none. -/
  record : Option MachineRecord
  /-- The EMPTY curve: none is empty, otherwise its N values. -/
  curveE : Option (List Int)
  /-- The REFERENCE curve. -/
  curveL : Option (List Int)
  bands : Vector Band 8
  /-- NONE is none. -/
  window : Option Window
  prevTheta : Option Int
  lastResult : Option WindowResult
  tare : Int
  tareArmed : Bool
  latest : Option LatestSample
  /-- NONE is none. -/
  calibration : Option Calibration
deriving DecidableEq, Repr

/-- WEN after a cold reset (R42, R48, R60, R64, R86). -/
def Wen.cold : Wen :=
  { record := none, curveE := none, curveL := none, bands := Vector.replicate 8 ⟨0, 0⟩, window := none,
    prevTheta := none, lastResult := none, tare := 0, tareArmed := false, latest := none, calibration := none }

/-! ### CYT: the cycle tracker -/

/-- The pending record (R111). -/
structure PendingRecord where
  mass : Option Nat
  cls : ResultClass
  reason : Option Reason
  belowZero : Bool
  overRange : Bool
  reweighed : Bool
  ending : Ending
  n : Nat
  counts : Counts
  endTime : Time
deriving DecidableEq, Repr

/-- The state of CYT (R102). -/
structure Cyt where
  state : CycleState
  pending : Option PendingRecord
  /-- The tare-pass marker. -/
  marker : Bool
  start : Option Time
  /-- The last cycle time in ms. -/
  lastCycle : Time
  /-- The tip detector: ARMED is true. -/
  tipArmed : Bool
deriving DecidableEq, Repr

/-- CYT after a cold reset (R102). -/
def Cyt.cold : Cyt :=
  { state := .idle, pending := none, marker := false, start := none, lastCycle := 0, tipArmed := false }

/-! ### LAC: the load accumulator -/

/-- A bucket record as CYT hands it over (R117). -/
structure HandedRecord where
  mass : Option Nat
  cls : ResultClass
  reason : Option Reason
  belowZero : Bool
  overRange : Bool
  reweighed : Bool
  digToDump : Time
  dumpTime : Time
  n : Nat
deriving DecidableEq, Repr

/-- A bucket record in a load: what CYT handed over, with the fill and the position (R124). -/
structure BucketRecord where
  handed : HandedRecord
  fill : Option Nat
  position : Nat
deriving DecidableEq, Repr

/-- A truck load (R124). -/
structure Load where
  number : Nat
  material : Fin 16
  target : Nat
  tolerance : Nat
  /-- Dump order, oldest first. -/
  buckets : List BucketRecord
  total : Nat
  unweighed : Nat
  openTime : Time
  incomplete : Bool
  overload : Bool
  alerted : Bool
deriving DecidableEq, Repr

/-- The current load after a cold reset (R124). -/
def Load.cold : Load :=
  { number := 1, material := 0, target := 0, tolerance := 0, buckets := [], total := 0, unweighed := 0,
    openTime := 0, incomplete := false, overload := false, alerted := false }

/-- A load summary (R125). -/
structure Summary where
  load : Load
  closeTime : Time
  closedBy : ClosedBy
deriving DecidableEq, Repr

/-- The per-material counters (R137). -/
structure MaterialTotals where
  trucks : Nat
  buckets : Nat
  unweighed : Nat
  mass : Nat
deriving DecidableEq, Repr

/-- Counters at zero (R137). -/
def MaterialTotals.zero : MaterialTotals := ⟨0, 0, 0, 0⟩

/-- The shift totals (R137). -/
structure Totals where
  materials : Vector MaterialTotals 16
  cycles : Nat
  returned : Nat
  tarePasses : Nat
  shiftStart : Time
deriving DecidableEq, Repr

/-- Totals at zero, with a shift start time (R137, R138). -/
def Totals.zero (t : Time) : Totals :=
  { materials := Vector.replicate 16 MaterialTotals.zero, cycles := 0, returned := 0, tarePasses := 0,
    shiftStart := t }

/-- The state of LAC (R124 to R137). -/
structure Lac where
  load : Load
  /-- Completed loads, oldest first. -/
  completed : List Summary
  /-- Densities in kg/m³; 0 is unused. -/
  materials : Vector Nat 16
  nextMaterial : Option (Fin 16)
  /-- The target setting. -/
  target : Nat
  /-- The tolerance setting. -/
  tolerance : Nat
  totals : Totals
deriving DecidableEq, Repr

/-- LAC after a cold reset (R140). -/
def Lac.cold : Lac :=
  { load := Load.cold, completed := [], materials := Vector.replicate 16 0, nextMaterial := none, target := 0,
    tolerance := 0, totals := Totals.zero 0 }

/-! ### DIN: the direct inputs -/

/-- A line slot (R143, R144, R146). -/
structure Line where
  function : LineFunction
  edge : LineEdge
  /-- Debounce time in ms. -/
  debounce : Nat
  raw : Bool
  debounced : Bool
  /-- The stability expiry. -/
  stability : Option Time
  flag : Bool
  lastRise : Option Time
  lastFall : Option Time
deriving DecidableEq, Repr

/-- A line slot after a cold reset that read this level (R144, R146, R147). -/
def Line.cold (level : Bool) : Line :=
  { function := .none, edge := .rise, debounce := 50, raw := level, debounced := level, stability := none,
    flag := false, lastRise := none, lastFall := none }

/-- The state of DIN (R143). -/
structure Din where
  /-- The encoder counter, two's complement, wrapping (R150). -/
  counter : BitVec 32
  qa : Bool
  qb : Bool
  homing : Homing
  phaseErrors : Nat
  /-- The offer tick's expiry. -/
  offerTick : Time
  lines : Vector Line 4
  /-- The SERVICE level: active is true. -/
  service : Bool
  power : Power
deriving DecidableEq, Repr

/-- DIN after a cold reset with these pin levels (R143). -/
def Din.cold (p : ResetPins) : Din :=
  { counter := 0, qa := p.qa, qb := p.qb, homing := .unhomed, phaseErrors := 0,
    offerTick := BitVec.ofNat 32 Config.offerPeriod,
    lines := #v[Line.cold (p.lines.get 0), Line.cold (p.lines.get 1), Line.cold (p.lines.get 2),
      Line.cold (p.lines.get 3)],
    service := false, power := .running }

/-! ### MPORT and CPORT -/

/-- The retry state of one port's transmitter (R159). -/
structure TxState where
  failed : Nat
  drops : Nat
  /-- SILENT with its end time, or none. -/
  silence : Option Time
deriving DecidableEq, Repr

/-- A transmitter's retry state after a reset (R5, R159). -/
def TxState.cold : TxState := ⟨0, 0, none⟩

/-- The state of MPORT: the machine response queue and the machine transmitter (R5). -/
structure Mport where
  queue : List Frame
  /-- The transmitter carries the queue's oldest frame. -/
  carrying : Bool
  tx : TxState
deriving DecidableEq, Repr

/-- MPORT after a cold reset or a warm restart (R5). -/
def Mport.cold : Mport := ⟨[], false, TxState.cold⟩

/-- One channel: its queue, oldest first, and its two marks (R159). -/
structure ChannelState where
  queue : List Frame
  held : Bool
  blocked : Bool
deriving DecidableEq, Repr

/-- A channel after a reset (R159). -/
def ChannelState.cold : ChannelState := ⟨[], false, false⟩

/-- The state of CPORT (R159). -/
structure Cport where
  g : ChannelState
  e : ChannelState
  p : ChannelState
  m : ChannelState
  c : ChannelState
  toggleG : Bool
  toggleE : Bool
  pendingG : Option Bool
  pendingE : Option Bool
  /-- FREE is none; otherwise the channel whose oldest frame the transmitter carries. -/
  carrying : Option Channel
  tx : TxState
  budget : Nat
  gap : Bool
  /-- The gauge timer: IDLE is none, RUNNING is its expiry time. -/
  gauge : Option Time
deriving DecidableEq, Repr

/-- CPORT after a cold reset (R159). -/
def Cport.cold : Cport :=
  { g := ChannelState.cold, e := ChannelState.cold, p := ChannelState.cold, m := ChannelState.cold,
    c := ChannelState.cold, toggleG := false, toggleE := false, pendingG := none, pendingE := none,
    carrying := none, tx := TxState.cold, budget := 0, gap := false, gauge := none }

/-! ### MGT: the management unit -/

/-- A deferred mode change (R182, R199). -/
inductive Deferred
  | config
  | calibrate (target : CurveName) (runs : Nat)
deriving DecidableEq, Repr

/-- A load assembly in OPEN or FAILED (R189). -/
structure Assembly where
  /-- FAILED is true, OPEN is false. -/
  failed : Bool
  owner : Port
  table : Table
  first : Nat
  count : Nat
  declared : Nat
  received : List Byte
  expected : Byte
  timeout : Time
deriving DecidableEq, Repr

/-- The state of MGT (R182). -/
structure Mgt where
  mode : Mode
  deferred : Option Deferred
  /-- FREE is none. -/
  assembly : Option Assembly
  alerts : BitVec 16
  mask : BitVec 16
  node : Byte
deriving DecidableEq, Repr

/-- MGT after a cold reset with this strap value (R182). -/
def Mgt.cold (straps : Fin 8) : Mgt :=
  { mode := .config, deferred := none, assembly := none, alerts := 0, mask := 0xFFFF,
    node := BitVec.ofNat 8 (Config.nodeBase + straps.val) }

/-! ### The whole part -/

/-- The part: the timebase, the bit rate the BAUD strap selects, the nine blocks, the counter of free values
(the model's own field), and the commands that wait, first in first out. -/
structure State where
  time : Time
  /-- Bit rate of both ports in kbit/s, read from the BAUD strap at a cold reset. -/
  baud : Nat
  mport : Mport
  fcl : Fcl
  sig : Sig
  din : Din
  wen : Wen
  cyt : Cyt
  lac : Lac
  cport : Cport
  mgt : Mgt
  /-- How many free values have been used (the model's own field, log entry 3). -/
  freeCount : Nat
  pending : List Instr
deriving DecidableEq, Repr

/-- The spec gives this block no fault: nothing stops it. No meaning raises one, so there is no constructor. -/
inductive Fault
deriving DecidableEq, Repr

/-- Why the model refuses a command. -/
inductive Refusal
  /-- The command has no meaning in this model yet. No arm of `exec` raises it now. Safe: the machine stops. -/
  | notModelled (mnemonic : String)
deriving DecidableEq, Repr

/-- Every block at its cold values, with the pins read at the reset (R182 and the rule of each block). -/
def State.cold (p : ResetPins) : State :=
  { time := 0, baud := p.baud, mport := Mport.cold, fcl := Fcl.cold, sig := Sig.cold, din := Din.cold p,
    wen := Wen.cold, cyt := Cyt.cold, lac := Lac.cold, cport := Cport.cold, mgt := Mgt.cold p.straps,
    freeCount := 0, pending := [] }

/-- The pin levels of `State.reset`: straps 0, 1,000 kbit/s, every input low. DESIGN CHOICE, log entry 4: the
spec leaves the pins to the board. -/
def ResetPins.allLow : ResetPins :=
  { straps := 0, baud := 1000, qa := false, qb := false, lines := Vector.replicate 4 false }

/-- The part right after a cold reset, with an empty queue. -/
def State.reset : State := State.cold ResetPins.allLow

end Sys2Proof.Machine
end

