-- ==== Sys2Proof/Machine/Operands.lean ====
section
/-! DEFINITION. The codes of the enumerations (R210) and the entry encodings of the eight tables (R214): what an
argument byte names, and what the stored fields of an entry look like as bytes. -/

namespace Sys2Proof.Machine

/-! ### Enumeration codes (R210) -/

/-- Code of a mode. -/
def Mode.code : Mode → Nat
  | .config => 0
  | .run => 1
  | .calibrate => 2

/-- The mode a code names. -/
def modeOf : Nat → Option Mode
  | 0 => some .config
  | 1 => some .run
  | 2 => some .calibrate
  | _ => none

/-- Code of a power state. -/
def Power.code : Power → Nat
  | .running => 0
  | .parked => 1

/-- Code of a signal state. -/
def SignalState.code : SignalState → Nat
  | .unmapped => 0
  | .awaiting => 1
  | .valid => 2
  | .stale => 3
  | .lost => 4

/-- Code of a slot source. -/
def Source.code : Source → Nat
  | .sxt i => i.val
  | .encoder => 0x10
  | .none => 0xFF

/-- Code of a role. -/
def roleCode : Role → Nat
  | .head => 0
  | .rod => 1
  | .boom => 2
  | .pitch => 3
  | .tilt => 4

/-- The role a code names. -/
def roleOf : Nat → Option Role
  | 0 => some .head
  | 1 => some .rod
  | 2 => some .boom
  | 3 => some .pitch
  | 4 => some .tilt
  | _ => none

/-- Code of a curve. -/
def CurveName.code : CurveName → Nat
  | .empty => 0
  | .reference => 1

/-- The curve a code names. -/
def curveOf : Nat → Option CurveName
  | 0 => some .empty
  | 1 => some .reference
  | _ => none

/-- Code of a curve state. -/
def CurveState.code : CurveState → Nat
  | .none => 0
  | .eOnly => 1
  | .lOnly => 2
  | .valid => 3
  | .invalid => 4

/-- Code of a window ending. -/
def Ending.code : Ending → Nat
  | .closed => 0
  | .reversed => 1
  | .timeout => 2
  | .dumped => 3
  | .lost => 4
  | .parked => 5
  | .mode => 6

/-- Code of a result class. -/
def ResultClass.code : ResultClass → Nat
  | .weighed => 0
  | .unsteady => 1
  | .partialLift => 2
  | .notWeighed => 3

/-- Code of a reason. -/
def Reason.code : Reason → Nat
  | .few => 0
  | .signal => 1
  | .parked => 2
  | .mode => 3
  | .noWindow => 4

/-- Code of a result kind. -/
def ResultKind.code : ResultKind → Nat
  | .bucket => 0
  | .tarePass => 1

/-- Code of a cycle state. -/
def CycleState.code : CycleState → Nat
  | .idle => 0
  | .dig => 1
  | .lift => 2
  | .carry => 3
  | .lower => 4

/-- Code of a break reason. -/
def BreakReason.code : BreakReason → Nat
  | .signal => 0
  | .gap => 1
  | .speed => 2
  | .reversed => 3
  | .parked => 4

/-- Code of a channel. -/
def Channel.code : Channel → Nat
  | .g => 0
  | .e => 1
  | .p => 2
  | .m => 3
  | .c => 4

/-- The channel a code names. -/
def channelOf : Nat → Option Channel
  | 0 => some .g
  | 1 => some .e
  | 2 => some .p
  | 3 => some .m
  | 4 => some .c
  | _ => none

/-- Code of a port. -/
def portCode : Port → Nat
  | .cab => 0
  | .machine => 1

/-- The port a code names. -/
def portOf : Nat → Option Port
  | 0 => some .cab
  | 1 => some .machine
  | _ => none

/-- Code of a table. -/
def Table.code : Table → Nat
  | .fat => 0
  | .sxt => 1
  | .machine => 2
  | .curveE => 3
  | .curveL => 4
  | .bands => 5
  | .material => 6
  | .lines => 7

/-- The table a code names. -/
def tableOf : Nat → Option Table
  | 0 => some .fat
  | 1 => some .sxt
  | 2 => some .machine
  | 3 => some .curveE
  | 4 => some .curveL
  | 5 => some .bands
  | 6 => some .material
  | 7 => some .lines
  | _ => none

/-- Entries of a table (R188). -/
def Table.entries : Table → Nat
  | .fat => 48
  | .sxt => 16
  | .machine => 1
  | .curveE => 24
  | .curveL => 24
  | .bands => 8
  | .material => 16
  | .lines => 4

/-- Bytes per entry of a table (R188). -/
def Table.bytes : Table → Nat
  | .fat => 16
  | .sxt => 20
  | .machine => 64
  | .curveE => 4
  | .curveL => 4
  | .bands => 4
  | .material => 4
  | .lines => 4

/-- The table is writable in this mode (R188): MATERIAL in every mode, the others in CONFIG. -/
def Table.writable (t : Table) (m : Mode) : Bool := decide (t = .material) || decide (m = .config)

/-- Code of a line function. -/
def LineFunction.code : LineFunction → Nat
  | .none => 0
  | .tip => 1
  | .tare => 2
  | .nextTruck => 3
  | .cancelLast => 4
  | .key => 5
  | .service => 6

/-- The line function a code names. -/
def lineFunctionOf : Nat → Option LineFunction
  | 0 => some .none
  | 1 => some .tip
  | 2 => some .tare
  | 3 => some .nextTruck
  | 4 => some .cancelLast
  | 5 => some .key
  | 6 => some .service
  | _ => none

/-- Code of a line edge. -/
def LineEdge.code : LineEdge → Nat
  | .rise => 0
  | .fall => 1
  | .both => 2

/-- The line edge a code names. -/
def lineEdgeOf : Nat → Option LineEdge
  | 0 => some .rise
  | 1 => some .fall
  | 2 => some .both
  | _ => none

/-- Code of a homing state. -/
def Homing.code : Homing → Nat
  | .unhomed => 0
  | .homed => 1

/-- Code of closed-by. -/
def ClosedBy.code : ClosedBy → Nat
  | .auto => 0
  | .operator => 1
  | .management => 2

/-- Number of an alert flag (R202). -/
def Alert.code : Alert → Nat
  | .signalLost => 0
  | .phaseError => 1
  | .overspeedLift => 2
  | .unsteadyBucket => 3
  | .overloadAlert => 4
  | .eventLost => 5
  | .txFault => 6
  | .portSilent => 7
  | .tareRefused => 8
  | .calInvalid => 9
  | .mgmtOverrun => 10
  | .loadAutoClosed => 11

/-- Code of a notice cause. -/
def NoticeCause.code : NoticeCause → Nat
  | .command => 0
  | .deferred => 1
  | .completion => 2
  | .restart => 3

/-- Code of a response status. -/
def Status.code : Status → Nat
  | .ok => 0
  | .deferred => 1
  | .refusedMode => 2
  | .badArg => 3
  | .notReady => 4
  | .empty => 5
  | .owned => 6
  | .noLoad => 7
  | .loadFailed => 8
  | .checkFailed => 9
  | .badEntry => 10
  | .conflict => 11
  | .unknown => 12

/-- Code of a boom source. -/
def BoomSource.code : BoomSource → Nat
  | .frame => 0
  | .encoder => 1

/-- The boom source a code names. -/
def boomSourceOf : Nat → Option BoomSource
  | 0 => some .frame
  | 1 => some .encoder
  | _ => none

/-- Code of a frame policy. -/
def Policy.code : Policy → Nat
  | .forward => 0
  | .drop => 1

/-- The frame policy a code names. -/
def policyOf : Nat → Option Policy
  | 0 => some .forward
  | 1 => some .drop
  | _ => none

/-- The frame policy of one policy bit: 0 FORWARD, 1 DROP (R214). -/
def policyOfBit (b : Bool) : Policy := if b then .drop else .forward

/-! ### FAT entries (R214) -/

/-- A reference byte: 0..15, or absent 0xFF. The outer none is a code above 15 (R13). -/
def refOf (b : Byte) : Option (Option (Fin 16)) :=
  if b = 0xFF then some none
  else if h : b.toNat < 16 then some (some ⟨b.toNat, h⟩) else none

/-- A reference as its byte. -/
def refByte (r : Option (Fin 16)) : Byte :=
  match r with
  | some i => BitVec.ofNat 8 i.val
  | none => 0xFF

/-- A 29-bit value from 4 bytes; none when a bit above bit 28 is set (R13). -/
def ident29 (bs : List Byte) : Option (BitVec 29) :=
  let n := leNat bs
  if n < 2 ^ 29 then some (BitVec.ofNat 29 n) else none

/-- A FAT entry from its 16 bytes; none when a field's code is out of its range (R13, R214). -/
def decodeFat (bs : List Byte) : Option FatEntry := do
  let ident ← ident29 (slice bs 0 4)
  let mask ← ident29 (slice bs 4 4)
  let ref1 ← refOf (byteAt bs 10)
  let ref2 ← refOf (byteAt bs 11)
  some { enabled := (byteAt bs 8).getLsbD 0, ident := ident, mask := mask,
         forward := (byteAt bs 9).getLsbD 0, extract := (byteAt bs 9).getLsbD 1,
         capture := (byteAt bs 9).getLsbD 2, ref1 := ref1, ref2 := ref2,
         interval := 10 * leNat (slice bs 12 2) }

/-- A FAT entry as its 16 bytes, spare positions 0 (R214). -/
def encodeFat (e : FatEntry) : List Byte :=
  leBytes 4 e.ident.toNat ++ leBytes 4 e.mask.toNat ++ fField [e.enabled]
    ++ fField [e.forward, e.extract, e.capture] ++ [refByte e.ref1, refByte e.ref2]
    ++ leBytes 2 (e.interval / 10) ++ [0, 0]

/-- The checks of R13 that the decoding does not already make. -/
def FatEntry.ok (e : FatEntry) : Bool :=
  decide (e.interval ≤ 2550)
    && (!e.extract || e.ref1.isSome || e.ref2.isSome)
    && (e.extract || (e.ref1.isNone && e.ref2.isNone))
    && (e.ref1.isNone || decide (e.ref1 ≠ e.ref2))
    && (e.forward || decide (e.interval = 0))

/-! ### SXT entries (R214) -/

/-- An SXT entry from its 20 bytes; none when the role code names no role (R25, R214). -/
def decodeSxt (bs : List Byte) : Option SxtEntry := do
  let role ← roleOf (byteAt bs 1).toNat
  some { enabled := (byteAt bs 0).getLsbD 0, role := role, start := (byteAt bs 2).toNat,
         length := (byteAt bs 3).toNat,
         order := if (byteAt bs 0).getLsbD 1 then .big else .little,
         signedness := if (byteAt bs 0).getLsbD 2 then .signed else .unsigned,
         multiplier := leSigned (slice bs 4 2), divisor := leNat (slice bs 6 2),
         offset := leSigned (slice bs 8 3), plausMin := leSigned (slice bs 11 3),
         plausMax := leSigned (slice bs 14 3), timeout := leNat (slice bs 17 2) }

/-- An SXT entry as its 20 bytes (R214). -/
def encodeSxt (e : SxtEntry) : List Byte :=
  fField [e.enabled, decide (e.order = .big), decide (e.signedness = .signed)] ++ eField (roleCode e.role)
    ++ leBytes 1 e.start ++ leBytes 1 e.length ++ leInt 2 e.multiplier ++ leBytes 2 e.divisor
    ++ leInt 3 e.offset ++ leInt 3 e.plausMin ++ leInt 3 e.plausMax ++ leBytes 2 e.timeout ++ [0]

/-- The checks of R25 that the decoding does not already make. -/
def SxtEntry.ok (e : SxtEntry) : Bool :=
  decide (e.start ≤ 63) && decide (1 ≤ e.length) && decide (e.length ≤ 32)
    && fieldFits e.order e.start e.length
    && decide (1 ≤ e.divisor) && decide (e.divisor ≤ 32767)
    && decide (-1000000 ≤ e.offset) && decide (e.offset ≤ 1000000)
    && decide (-1000000 ≤ e.plausMin) && decide (e.plausMin ≤ 1000000)
    && decide (-1000000 ≤ e.plausMax) && decide (e.plausMax ≤ 1000000)
    && decide (e.plausMin ≤ e.plausMax)
    && decide (10 ≤ e.timeout) && decide (e.timeout ≤ 2550) && decide (e.timeout % 10 = 0)

/-! ### The Machine Record (R214) -/

/-- The 8 zone policies of one byte, bit z for zone z. -/
def zonesOf (b : Byte) : Vector Policy 8 :=
  #v[policyOfBit (b.getLsbD 0), policyOfBit (b.getLsbD 1), policyOfBit (b.getLsbD 2),
     policyOfBit (b.getLsbD 3), policyOfBit (b.getLsbD 4), policyOfBit (b.getLsbD 5),
     policyOfBit (b.getLsbD 6), policyOfBit (b.getLsbD 7)]

/-- The 8 zone policies as one byte. -/
def zonesByte (z : Vector Policy 8) : List Byte := fField (z.toList.map fun p => decide (p = .drop))

/-- The Machine Record from its 64 bytes; none when an enumerated field holds no listed value (R43, R214). -/
def decodeRecord (bs : List Byte) : Option MachineRecord := do
  let source ← boomSourceOf (byteAt bs 5).toNat
  let standard ← policyOf (byteAt bs 33).toNat
  some { aHead := leNat (slice bs 0 2), aRod := leNat (slice bs 2 2), nCyl := (byteAt bs 4).toNat,
         boomSource := source, mRef := leNat (slice bs 6 2), theta0 := leSigned (slice bs 8 2),
         dTheta := leNat (slice bs 10 2), n := (byteAt bs 12).toNat, trim := (byteAt bs 13).toNat,
         calSpeed := leNat (slice bs 14 2), thetaLo := leSigned (slice bs 16 2),
         thetaHi := leSigned (slice bs 18 2), nMin := (byteAt bs 20).toNat, zones := zonesOf (byteAt bs 21),
         spreadLimit := leNat (slice bs 22 2), windowTimeout := leNat (slice bs 24 2),
         omegaMin := leNat (slice bs 26 2), thetaDig := leSigned (slice bs 28 2),
         fDig := leNat (slice bs 30 3), standard := standard, h := leNat (slice bs 34 2),
         thetaDump := leSigned (slice bs 36 2), volume := leNat (slice bs 38 2),
         gaugePeriod := leNat (slice bs 40 2), encNum := leSigned (slice bs 42 2),
         encDen := leNat (slice bs 44 2), indexAngle := leSigned (slice bs 46 2) }

/-- The Machine Record as its 64 bytes (R214). -/
def encodeRecord (r : MachineRecord) : List Byte :=
  leBytes 2 r.aHead ++ leBytes 2 r.aRod ++ leBytes 1 r.nCyl ++ eField r.boomSource.code ++ leBytes 2 r.mRef
    ++ leInt 2 r.theta0 ++ leBytes 2 r.dTheta ++ leBytes 1 r.n ++ leBytes 1 r.trim ++ leBytes 2 r.calSpeed
    ++ leInt 2 r.thetaLo ++ leInt 2 r.thetaHi ++ leBytes 1 r.nMin ++ zonesByte r.zones
    ++ leBytes 2 r.spreadLimit ++ leBytes 2 r.windowTimeout ++ leBytes 2 r.omegaMin ++ leInt 2 r.thetaDig
    ++ leBytes 3 r.fDig ++ eField r.standard.code ++ leBytes 2 r.h ++ leInt 2 r.thetaDump
    ++ leBytes 2 r.volume ++ leBytes 2 r.gaugePeriod ++ leInt 2 r.encNum ++ leBytes 2 r.encDen
    ++ leInt 2 r.indexAngle ++ List.replicate 16 0

/-- The last grid angle θ0 + (N − 1)Δθ (R41). -/
def MachineRecord.thetaLast (r : MachineRecord) : Int := r.theta0 + ((r.n : Int) - 1) * r.dTheta

/-- `v` lies in `lo..hi`. -/
def within (lo hi v : Int) : Bool := decide (lo ≤ v) && decide (v ≤ hi)

/-- The checks of R43 that the decoding does not already make: the ranges of R41 and the four relations. -/
def MachineRecord.ok (r : MachineRecord) : Bool :=
  within 1 65535 r.aHead && within 0 65535 r.aRod && within 1 2 r.nCyl
    && within 100 20000 r.mRef && within (-4500) 6000 r.theta0 && within 50 1000 r.dTheta
    && within 4 24 r.n && within 50 3000 r.calSpeed
    && within (-18000) 18000 r.thetaLo && within (-18000) 18000 r.thetaHi
    && within 4 128 r.nMin && within 0 250 r.trim && within 0 65535 r.spreadLimit
    && within 1000 30000 r.windowTimeout && within 10 2000 r.omegaMin
    && within (-18000) 18000 r.thetaDig && within 0 524280 r.fDig && within 50 500 r.h
    && within (-18000) 18000 r.thetaDump && within 500 30000 r.volume
    && (decide (r.gaugePeriod = 0) || within 100 2000 r.gaugePeriod)
    && within (-32768) 32767 r.encNum && within 1 32767 r.encDen && within (-18000) 18000 r.indexAngle
    && decide (r.thetaLast ≤ 6000)
    && decide (r.theta0 ≤ r.thetaLo) && decide (r.thetaLo < r.thetaHi) && decide (r.thetaHi ≤ r.thetaLast)
    && decide (2 * (r.dTheta : Int) ≤ r.thetaHi - r.thetaLo)
    && decide (r.thetaDig + r.h < r.thetaLo)

/-! ### Four-byte entries (R214) -/

/-- A curve value from its 4 bytes. -/
def decodeCurve (bs : List Byte) : Option Int := some (leSigned (slice bs 0 4))

/-- A curve value lies in its range (R48, R52). -/
def curveOk (v : Int) : Bool := within (-524280) 524280 v

/-- A curve value as its 4 bytes. -/
def encodeCurve (v : Int) : List Byte := leInt 4 v

/-- A speed band from its 4 bytes. -/
def decodeBand (bs : List Byte) : Option Band := some ⟨leNat (slice bs 0 2), leSigned (slice bs 2 2)⟩

/-- A speed band as its 4 bytes. -/
def encodeBand (b : Band) : List Byte := leBytes 2 b.upper ++ leInt 2 b.correction

/-- A density from the 4 bytes of a MATERIAL entry. -/
def decodeMaterial (bs : List Byte) : Option Nat := some (leNat (slice bs 0 2))

/-- A density as the 4 bytes of a MATERIAL entry. -/
def encodeMaterial (rho : Nat) : List Byte := leBytes 2 rho ++ [0, 0]

/-- The loaded fields of a LINES entry (R144). -/
structure LineSetting where
  function : LineFunction
  edge : LineEdge
  debounce : Nat
deriving DecidableEq, Repr

/-- A LINES entry from its 4 bytes; none when a code names no function or no edge (R144). -/
def decodeLine (bs : List Byte) : Option LineSetting := do
  let f ← lineFunctionOf (byteAt bs 0).toNat
  let e ← lineEdgeOf (byteAt bs 1).toNat
  some ⟨f, e, leNat (slice bs 2 2)⟩

/-- The check of R144 that the decoding does not already make. -/
def LineSetting.ok (l : LineSetting) : Bool :=
  decide (10 ≤ l.debounce) && decide (l.debounce ≤ 500) && decide (l.debounce % 10 = 0)

/-- A LINES entry as its 4 bytes. -/
def encodeLine (l : Line) : List Byte := eField l.function.code ++ eField l.edge.code ++ leBytes 2 l.debounce

end Sys2Proof.Machine
end

