-- ==== Sys2Proof/Machine/Ops.lean ====
section
/-! DEFINITION. The named operations on the state: one update per block, the slots, channels and transmitters by
name, the timebase tests, and the writing of a run of table entries. -/

namespace Sys2Proof.Machine

/-! ### One update per block -/

/-- Change MPORT alone. -/
def State.modMport (f : Mport → Mport) (s : State) : State := { s with mport := f s.mport }
/-- Change FCL alone. -/
def State.modFcl (f : Fcl → Fcl) (s : State) : State := { s with fcl := f s.fcl }
/-- Change SIG alone. -/
def State.modSig (f : Sig → Sig) (s : State) : State := { s with sig := f s.sig }
/-- Change DIN alone. -/
def State.modDin (f : Din → Din) (s : State) : State := { s with din := f s.din }
/-- Change WEN alone. -/
def State.modWen (f : Wen → Wen) (s : State) : State := { s with wen := f s.wen }
/-- Change CYT alone. -/
def State.modCyt (f : Cyt → Cyt) (s : State) : State := { s with cyt := f s.cyt }
/-- Change LAC alone. -/
def State.modLac (f : Lac → Lac) (s : State) : State := { s with lac := f s.lac }
/-- Change CPORT alone. -/
def State.modCport (f : Cport → Cport) (s : State) : State := { s with cport := f s.cport }
/-- Change MGT alone. -/
def State.modMgt (f : Mgt → Mgt) (s : State) : State := { s with mgt := f s.mgt }

/-! ### The timebase (R1) -/

/-- `ms` milliseconds after `t`, modulo 2^32. -/
def Time.plus (t : Time) (ms : Nat) : Time := t + BitVec.ofNat 32 ms

/-- `a` minus `b` in ms, modulo 2^32 (R1). -/
def Time.since (a b : Time) : Nat := (a - b).toNat

/-- The timebase has reached `e`: the difference modulo 2^32 is below half the range (log entry 1). -/
def State.reached (s : State) (e : Time) : Bool := decide (Time.since s.time e < 2147483648)

/-- A timer that is running and whose expiry the timebase has reached: that expiry. -/
def State.due (s : State) (timer : Option Time) : Option Time :=
  match timer with
  | some e => if s.reached e then some e else none
  | none => none

/-! ### SIG's slots by role -/

/-- The slot of a role. -/
def Sig.slot (g : Sig) : Role → Slot
  | .head => g.head
  | .rod => g.rod
  | .boom => g.boom
  | .pitch => g.pitch
  | .tilt => g.tilt

/-- The slot of a role replaced. -/
def Sig.setSlot (g : Sig) (r : Role) (x : Slot) : Sig :=
  match r with
  | .head => { g with head := x }
  | .rod => { g with rod := x }
  | .boom => { g with boom := x }
  | .pitch => { g with pitch := x }
  | .tilt => { g with tilt := x }

/-- Every slot changed by its role. -/
def Sig.mapSlots (g : Sig) (f : Role → Slot → Slot) : Sig :=
  { g with head := f .head g.head, rod := f .rod g.rod, boom := f .boom g.boom, pitch := f .pitch g.pitch,
           tilt := f .tilt g.tilt }

/-- A slot has a source other than NONE (R23). -/
def Slot.mapped (x : Slot) : Bool := decide (x.source ≠ .none)

/-- A slot's value when it is usable: the state is VALID (R39). -/
def Slot.usable (x : Slot) : Option Int := if x.state = .valid then x.value else none

/-- A value a reader takes as 0 when the role is UNMAPPED, and needs VALID when it is mapped (R39). -/
def Slot.usableOrZero (x : Slot) : Option Int := if x.state = .unmapped then some 0 else x.usable

/-! ### CPORT's channels by name -/

/-- The state of a channel. -/
def Cport.chan (p : Cport) : Channel → ChannelState
  | .g => p.g
  | .e => p.e
  | .p => p.p
  | .m => p.m
  | .c => p.c

/-- The state of a channel replaced. -/
def Cport.setChan (p : Cport) (ch : Channel) (x : ChannelState) : Cport :=
  match ch with
  | .g => { p with g := x }
  | .e => { p with e := x }
  | .p => { p with p := x }
  | .m => { p with m := x }
  | .c => { p with c := x }

/-- The channel is OPEN: neither mark set (R160). -/
def ChannelState.isOpen (x : ChannelState) : Bool := !x.held && !x.blocked

/-- Code of the channel's state: OPEN, HELD, BLOCKED (R160, R210). -/
def ChannelState.code (x : ChannelState) : Nat := if x.blocked then 2 else if x.held then 1 else 0

/-- A frame queued as the newest. -/
def ChannelState.push (x : ChannelState) (f : Frame) : ChannelState := { x with queue := x.queue ++ [f] }

/-- The oldest frame leaves the queue. -/
def ChannelState.pop (x : ChannelState) : ChannelState := { x with queue := x.queue.tail }

/-- The flush of a channel: every queued frame is discarded, except one the transmitter carries, which is the
oldest (R161, R179). -/
def Cport.flush (p : Cport) (ch : Channel) : Cport :=
  let x := p.chan ch
  p.setChan ch { x with queue := if p.carrying = some ch then x.queue.take 1 else [] }

/-- The toggle of a channel; only G and E carry one (R173). -/
def Cport.toggle (p : Cport) : Channel → Option Bool
  | .g => some p.toggleG
  | .e => some p.toggleE
  | .p | .m | .c => none

/-- The pending toggle of a channel (R174). -/
def Cport.pendingToggle (p : Cport) : Channel → Option Bool
  | .g => p.pendingG
  | .e => p.pendingE
  | .p | .m | .c => none

/-- The toggle of G or E set; no effect on the channels without one. -/
def Cport.setToggle (p : Cport) (ch : Channel) (v : Bool) : Cport :=
  match ch with
  | .g => { p with toggleG := v }
  | .e => { p with toggleE := v }
  | .p | .m | .c => p

/-- The pending toggle of G or E set. -/
def Cport.setPending (p : Cport) (ch : Channel) (v : Option Bool) : Cport :=
  match ch with
  | .g => { p with pendingG := v }
  | .e => { p with pendingE := v }
  | .p | .m | .c => p

/-! ### The transmitters by port -/

/-- The retry state of a port's transmitter (R159). -/
def State.tx (s : State) : Port → TxState
  | .cab => s.cport.tx
  | .machine => s.mport.tx

/-- The retry state of a port's transmitter replaced. -/
def State.setTx (s : State) (port : Port) (x : TxState) : State :=
  match port with
  | .cab => s.modCport fun p => { p with tx := x }
  | .machine => s.modMport fun p => { p with tx := x }

/-! ### Frames -/

/-- The data bytes of a frame; a remote frame has none (R2). -/
def frameBytes (f : Frame) : List Byte :=
  match f.body with
  | .data bytes => bytes
  | .remote _ => []

/-- An extended data frame. -/
def dataFrame (id : BitVec 29) (bytes : List Byte) : Frame := ⟨.extended id, .data bytes⟩

/-- A display frame of a kind, built at its offer with the node number in force (R159, R212). -/
def State.displayFrame (s : State) (kind : Nat) (fields : List (Nat × Nat)) : Frame :=
  dataFrame (Config.displayBase + BitVec.ofNat 29 (kind * 256) + s.mgt.node.setWidth 29) (wordBytes fields)

/-! ### Tables -/

/-- A run of entries written from index `first` on (R188, R193). -/
def writeRun {α : Type} {n : Nat} (v : Vector α n) (first : Nat) : List α → Vector α n
  | [] => v
  | x :: xs => writeRun (v.setIfInBounds first x) (first + 1) xs

/-- The entries of a loaded run: bytes k × s to k × s + s − 1 are entry k of the run (R214). -/
def chunks (size : Nat) (bytes : List Byte) : Nat → List (List Byte)
  | 0 => []
  | n + 1 => bytes.take size :: chunks size (bytes.drop size) n

/-- The entries of a run decoded and checked in index order: all of them, or the index of the first that breaks
a check. -/
def checkRun {α : Type} (decode : List Byte → Option α) (ok : Nat → α → Bool) :
    Nat → List (List Byte) → Except Nat (List α)
  | _, [] => .ok []
  | i, b :: bs =>
    match decode b with
    | none => .error i
    | some x =>
      if ok i x then
        match checkRun decode ok (i + 1) bs with
        | .ok xs => .ok (x :: xs)
        | .error j => .error j
      else .error i

end Sys2Proof.Machine
end

