-- ==== Sys2Proof/Machine/Flags.lean ====
section
/-! DEFINITION. The alert flags and channel E: an offer to E with its full and BLOCKED rules (R163), and the
raise of an alert, which latches its flag and may offer an ALERT frame (R202). -/

namespace Sys2Proof.Machine

/-- The mask with one alert's bit set. -/
def Alert.bit (a : Alert) : BitVec 16 := 1#16 <<< a.code

/-- The flag of an alert is latched. -/
def Mgt.latched (m : Mgt) (a : Alert) : Bool := m.alerts.getLsbD a.code

/-- Latch a flag (R202). -/
def State.latch (a : Alert) (s : State) : State := s.modMgt fun m => { m with alerts := m.alerts ||| a.bit }

/-- Offer a frame to channel E (R163): discarded while E is BLOCKED, queued while E holds fewer than 16, else
discarded with EVENT_LOST latched, for which no ALERT frame is ever made. -/
def State.offerE (f : Frame) (s : State) : State :=
  if s.cport.e.blocked then s
  else if s.cport.e.queue.length < Config.capE then s.modCport fun p => { p with e := p.e.push f }
  else s.latch .eventLost

/-- The ALERT frame of a raise, kind 4 (R212). -/
def State.alertFrame (a : Alert) (sub detail : Nat) (t : Time) (s : State) : Frame :=
  s.displayFrame 4 [(4, a.code), (4, sub), (16, detail), (32, t.toNat)]

/-- Raise an alert other than EVENT_LOST, with sub-detail, detail and timestamp: the flag latches, and an ALERT
frame is offered to E if the flag's mask bit is set (R202). -/
def State.raiseSub (a : Alert) (sub detail : Nat) (t : Time) (s : State) : State :=
  if s.mgt.mask.getLsbD a.code then (s.latch a).offerE (s.alertFrame a sub detail t) else s.latch a

/-- Raise an alert without a sub-detail, which is then 0xF (R212). -/
def State.raiseAlert (a : Alert) (detail : Nat) (t : Time) (s : State) : State := s.raiseSub a 0xF detail t

/-! ### NOTICE frames, kind 6, offered whatever the mask (R155, R176, R200) -/

/-- The NOTICE of a mode change: the target and R are sent for a change to CALIBRATE only (R200, R212). -/
def State.noticeMode (new old : Mode) (cal : Option (CurveName × Nat)) (cause : NoticeCause) (t : Time)
    (s : State) : State :=
  let target := match cal with
    | some (c, _) => c.code
    | none => 0
  let runs := match cal with
    | some (_, r) => r
    | none => 0
  s.offerE (s.displayFrame 6 [(2, 0), (2, new.code), (2, old.code), (2, cause.code), (1, target), (3, runs),
    (12, 0), (32, t.toNat)])

/-- The key-on NOTICE of a wake (R155). -/
def State.noticeKeyOn (t : Time) (s : State) : State :=
  s.offerE (s.displayFrame 6 [(2, 1), (22, 0), (32, t.toNat)])

/-- The capture-done NOTICE, carrying the gap flag at word bit 12 (R176). -/
def State.noticeCaptureDone (gap : Bool) (t : Time) (s : State) : State :=
  s.offerE (s.displayFrame 6 [(2, 2), (10, 0), (1, gap.toNat), (11, 0), (32, t.toNat)])

end Sys2Proof.Machine
end

