-- ==== Sys2Proof/Machine/Channels.lean ====
section
/-! DEFINITION. Offers to channels P, C and G and the offer of a management response (R162, R164 to R166), and the
gate that a request passes before MGT takes it (R6, R165). -/

namespace Sys2Proof.Machine

/-- P's queue without its oldest frame that the transmitter does not carry (R164). -/
def Cport.pushOutP (p : Cport) : List Frame :=
  if p.carrying = some .p then p.p.queue.take 1 ++ p.p.queue.drop 2 else p.p.queue.drop 1

/-- Offer a frame to channel P (R164). -/
def State.offerP (f : Frame) (s : State) : State :=
  if s.din.power = .parked ∨ s.cport.p.blocked then s
  else if s.cport.p.queue.length < Config.capP then s.modCport fun p => { p with p := p.p.push f }
  else s.modCport fun p => { p with p := { p.p with queue := p.pushOutP ++ [f] } }

/-- The capture budget after a queued copy (R176): 65,535 is unlimited. -/
def budgetAfter (b : Nat) : Nat := if b = max16 then b else b - 1

/-- Offer a copy to channel C (R166); a queued copy is charged to the budget, and one that uses it up holds C and
offers the capture-done NOTICE (R176). FCL makes the offer only with a nonzero budget (R15). -/
def State.offerC (f : Frame) (s : State) : State :=
  if s.cport.c.blocked then s
  else if s.cport.c.queue.length < Config.capC then
    let queued := s.modCport fun p => { p with c := p.c.push f, budget := budgetAfter p.budget }
    if s.cport.budget = 1 then
      (queued.modCport fun p => { p with c := { p.c with held := true }, gap := false }).noticeCaptureDone
        s.cport.gap s.time
    else queued
  else s.modCport fun p => { p with gap := true }

/-- Offer a GAUGE frame to channel G (R162). -/
def State.offerG (f : Frame) (s : State) : State :=
  if s.cport.g.blocked then s
  else if s.cport.g.queue = [] then s.modCport fun p => { p with g := p.g.push f }
  else if s.cport.carrying = some .g then s
  else s.modCport fun p => { p with g := { p.g with queue := [f] } }

/-- Offer a management response to the port its request came from: to channel M, where a BLOCKED M discards it, or
as the newest of the machine response queue (R5, R165, R183). -/
def State.offerResponse (port : Port) (f : Frame) (s : State) : State :=
  match port with
  | .cab => if s.cport.m.blocked then s else s.modCport fun p => { p with m := p.m.push f }
  | .machine => s.modMport fun m => { m with queue := m.queue ++ [f] }

/-- The response frame of a request: command byte, tag, status and five result bytes, with a node's identifier
(R183, R211). -/
def responseFrame (node : Byte) (code tag : Byte) (status : Status) (results : List Byte) : Frame :=
  dataFrame (Config.responseBase + node.setWidth 29)
    ([code, tag, BitVec.ofNat 8 status.code] ++ piece results 0)

/-- Answer a request (R183): the response is built with the node number in force and offered to its port. -/
def State.respond (port : Port) (code tag : Byte) (status : Status) (results : List Byte) (s : State) : State :=
  s.offerResponse port (responseFrame s.mgt.node code tag status results)

/-- The port's response queue has room for one more response (R6, R165). -/
def State.hasRoom (s : State) : Port → Bool
  | .cab => decide (s.cport.m.queue.length < Config.capM)
  | .machine => decide (s.mport.queue.length < Config.capMachine)

/-- A request routed to MGT from a port at time `t` is taken only while its response queue has room; otherwise it is
discarded and MGMT_OVERRUN raised with the port as detail (R6, R165). -/
def State.takeRequest (port : Port) (t : Time) (carryOut : State → State) (s : State) : State :=
  if s.hasRoom port then carryOut s else s.raiseAlert .mgmtOverrun (portCode port) t

end Sys2Proof.Machine
end

