-- ==== Sys2Proof/Machine/Signals.lean ====
section
/-! DEFINITION. SIG: sources, slot resets, extraction, acceptance, the freshness monitor's changes and boom speed
(R22 to R40). What an accepted value's readers do follows in Machine/Readers.lean. -/

namespace Sys2Proof.Machine

/-! ### Sources (R23) -/

/-- A PRESENT Machine Record selects the encoder as BOOM's source (R23 step 1, R152). -/
def encoderSelected (rec : Option MachineRecord) : Bool :=
  match rec with
  | some r => decide (r.boomSource = .encoder)
  | none => false

/-- The source of a role (R23). -/
def sourceOf (sxt : Vector SxtEntry 16) (rec : Option MachineRecord) (r : Role) : Source :=
  if r = .boom ∧ encoderSelected rec = true then .encoder
  else
    match (List.finRange 16).find? fun i => sxt[i].enabled && decide (sxt[i].role = r) with
    | some i => .sxt i
    | none => .none

/-- An enabled SXT entry of BOOM is inert while the encoder feeds BOOM (R23 step 1). -/
def inertEntry (rec : Option MachineRecord) (e : SxtEntry) : Bool := decide (e.role = .boom) && encoderSelected rec

/-- Four times the freshness timeout of a frame-fed source, in ms; none for the encoder and for NONE (R36). -/
def lossDelay (sxt : Vector SxtEntry 16) : Source → Option Nat
  | .sxt i => some (4 * sxt[i].timeout)
  | .encoder | .none => none

/-- The loss expiry of a slot that enters AWAITING at `t`: set while RUNNING for a frame-fed slot (R27, R36,
R40). -/
def awaitingLoss (sxt : Vector SxtEntry 16) (power : Power) (src : Source) (t : Time) : Option Time :=
  if power = .running then (lossDelay sxt src).map (Time.plus t) else none

/-- A slot as a load or a restart sets it (R27): AWAITING when mapped, UNMAPPED when not, everything else
cleared. -/
def freshSlot (sxt : Vector SxtEntry 16) (power : Power) (src : Source) (t : Time) : Slot :=
  { source := src, state := if src = .none then .unmapped else .awaiting, value := none, stamp := none,
    fresh := none, loss := awaitingLoss sxt power src t, implausible := false, short := false, clamped := false }

/-- ω invalid and the previous BOOM value absent (R27, R40). -/
def Sig.clearOmega (g : Sig) : Sig := { g with omega := none, prevBoom := none }

/-- A slot at the entry to PARKED: AWAITING when mapped, UNMAPPED when not, everything but the source cleared
(R40). -/
def Slot.parked (x : Slot) : Slot :=
  { x with state := if x.mapped then .awaiting else .unmapped, value := none, stamp := none, fresh := none,
           loss := none, implausible := false, short := false, clamped := false }

/-- SIG settles every source by R23 and sets every slot by the table of R27, at time `t`: an SXT load (R27), a
MACHINE load (R28), a warm restart (R40). -/
def State.settleSlots (t : Time) (s : State) : State :=
  s.modSig fun g =>
    (g.mapSlots fun r _ => freshSlot g.sxt s.din.power (sourceOf g.sxt s.wen.record r) t).clearOmega

/-- SIG at the entry to PARKED (R40): sources kept, mapped slots AWAITING without expiries, flags clear, ω
invalid. -/
def State.parkSlots (s : State) : State :=
  s.modSig fun g => (g.mapSlots fun _ x => x.parked).clearOmega

/-- SIG at the return to RUNNING at `t` (R40): mapped slots AWAITING with a loss expiry; flags and ω unchanged from
parking. -/
def State.wakeSlots (t : Time) (s : State) : State :=
  s.modSig fun g => g.mapSlots fun _ x =>
    if x.mapped then
      { x with state := .awaiting, value := none, stamp := none, fresh := none,
               loss := awaitingLoss g.sxt .running x.source t }
    else x

/-! ### Boom speed (R38) -/

/-- ω after a BOOM value `v` accepted at `t`. -/
def omegaAfter (omega : Option Int) (prev : Option (Int × Time)) (v : Int) (t : Time) : Option Int :=
  match prev with
  | none => none
  | some (v0, t0) =>
    let dt := Time.since t t0
    if dt = 0 then omega
    else if dt ≤ 200 then some (rdiv ((v - v0) * 1000) dt)
    else none

/-! ### Acceptance (R34, R35) -/

/-- The least value of a role (section 2.1). -/
def roleMin : Role → Int
  | .head | .rod => 0
  | .boom | .pitch | .tilt => -18000

/-- The greatest value of a role (section 2.1). -/
def roleMax : Role → Int
  | .head | .rod => 60000
  | .boom | .pitch | .tilt => 18000

/-- A value clamped to its role's range (R34). -/
def clampRole (r : Role) (v : Int) : Int := clamp (roleMin r) (roleMax r) v

/-- The slot after it accepts a value: `timeout` is the freshness timeout, none for an encoder-fed slot, which has
no expiries (R34, R35). -/
def Slot.accept (x : Slot) (r : Role) (v : Int) (t : Time) (timeout : Option Nat) : Slot :=
  { x with state := .valid, value := some (clampRole r v), stamp := some t, fresh := timeout.map (Time.plus t),
           loss := timeout.map fun d => Time.plus t (4 * d), implausible := false, short := false,
           clamped := decide (clampRole r v ≠ v) }

/-- SIG accepts a value into a role's slot as one change; a BOOM value also updates ω and the previous value
(R34, R35, R38). -/
def State.acceptValue (r : Role) (v : Int) (t : Time) (timeout : Option Nat) (s : State) : State :=
  s.modSig fun g =>
    let g' := g.setSlot r ((g.slot r).accept r v t timeout)
    if r = .boom then
      { g' with omega := omegaAfter g.omega g.prevBoom (clampRole r v) t, prevBoom := some (clampRole r v, t) }
    else g'

/-! ### Extraction (R29 to R33) -/

/-- The engineering value of a raw count, before the plausibility test and the clamp (R32). -/
def SxtEntry.scale (e : SxtEntry) (raw : Int) : Int := rdiv (raw * e.multiplier) e.divisor + e.offset

/-- The engineering value of an entry's field in a frame's data bytes (R30 to R32). -/
def SxtEntry.valueIn (e : SxtEntry) (bytes : List Byte) : Int :=
  e.scale (rawCount (decide (e.signedness = .signed)) e.length (fieldNat e.order e.start e.length bytes))

/-- What one hand-off comes to (R29, R30, R33). -/
inductive Extraction
  | nothing
  | short
  | implausible
  | value (v : Int)
deriving DecidableEq, Repr

/-- The outcome of handing a frame's bytes to an SXT entry: the tests of R29, R30 and R33 in order. -/
def State.extraction (s : State) (e : SxtEntry) (bytes : List Byte) : Extraction :=
  if e.enabled = false ∨ inertEntry s.wen.record e = true ∨ s.din.power = .parked then .nothing
  else if fieldPresent e.order e.start e.length bytes.length = false then .short
  else if e.valueIn bytes < e.plausMin ∨ e.plausMax < e.valueIn bytes then .implausible
  else .value (e.valueIn bytes)

/-- A role's slot changed alone. -/
def State.modSlot (r : Role) (f : Slot → Slot) (s : State) : State :=
  s.modSig fun g => g.setSlot r (f (g.slot r))

/-! ### Changes by time and by the encoder -/

/-- A VALID slot becomes STALE at its freshness expiry; value and timestamp are held (R36). -/
def Slot.goStale (x : Slot) : Slot := { x with state := .stale, fresh := none }

/-- A slot becomes LOST at its loss expiry; what it holds is kept (R22, R36). -/
def Slot.goLost (x : Slot) : Slot := { x with state := .lost, fresh := none, loss := none }

/-- An encoder-fed BOOM slot at the loss of homing: AWAITING, value absent, ω invalid, previous value absent
(R35). Its flags are kept (log entry 14). -/
def State.boomUnhomed (s : State) : State :=
  if s.sig.boom.source = .encoder then
    s.modSig fun g =>
      { g with boom := { g.boom with state := .awaiting, value := none, stamp := none, fresh := none,
                                     loss := none },
               omega := none, prevBoom := none }
  else s

/-- A mapped role is in a state other than VALID (R39). -/
def Sig.anyNotValid (g : Sig) : Bool :=
  [g.head, g.rod, g.boom, g.pitch, g.tilt].any fun x => x.mapped && decide (x.state ≠ .valid)

end Sys2Proof.Machine
end

