-- ==== Sys2Proof/Machine/Forces.lean ====
section
/-! DEFINITION. Net cylinder force, effective boom angle, the calibration grid, the lift curves and their state,
the lookup and the instantaneous mass (R45 to R58). -/

namespace Sys2Proof.Machine

/-! ### Force and angle -/

/-- F from the two pressures and the cylinder constants (R45). -/
def MachineRecord.force (r : MachineRecord) (head rod : Int) : Int :=
  rdiv ((r.nCyl : Int) * (head * r.aHead - rod * r.aRod)) 10000

/-- The net cylinder force at this moment; absent without a Machine Record, or when HEAD is not VALID, or ROD is
mapped and not VALID (R45). -/
def State.force (s : State) : Option Int :=
  match s.wen.record, s.sig.head.usable, s.sig.rod.usableOrZero with
  | some r, some h, some p => some (r.force h p)
  | _, _, _ => none

/-- The effective boom angle at this moment; absent when BOOM is not VALID, or PITCH is mapped and not VALID
(R46). -/
def State.thetaEff (s : State) : Option Int :=
  match s.sig.boom.usable, s.sig.pitch.usableOrZero with
  | some b, some p => some (b + p)
  | _, _ => none

/-! ### Curves -/

/-- A named curve. -/
def Wen.curve (w : Wen) : CurveName → Option (List Int)
  | .empty => w.curveE
  | .reference => w.curveL

/-- A named curve replaced as a whole (R53, R98). -/
def Wen.setCurve (w : Wen) (c : CurveName) (v : List Int) : Wen :=
  match c with
  | .empty => { w with curveE := some v }
  | .reference => { w with curveL := some v }

/-- The lowest grid index at which L_i − E_i is below 50 daN, counted from `i` (R50). -/
def spreadFailure : Nat → List Int → List Int → Option Nat
  | i, e :: es, l :: ls => if l - e < 50 then some i else spreadFailure (i + 1) es ls
  | _, _, _ => none

/-- The failing index of the validation of R50; none when it passes or when a curve is empty. -/
def Wen.validation (w : Wen) : Option Nat :=
  match w.curveE, w.curveL with
  | some e, some l => spreadFailure 0 e l
  | _, _ => none

/-- The curve state (R49). -/
def Wen.curveState (w : Wen) : CurveState :=
  match w.curveE, w.curveL with
  | none, none => .none
  | some _, none => .eOnly
  | none, some _ => .lOnly
  | some e, some l => if spreadFailure 0 e l = none then .valid else .invalid

/-- A curve is written at `t`, and a failed validation raises CAL_INVALID with the failing index (R50, R51). -/
def State.writeCurve (c : CurveName) (v : List Int) (t : Time) (s : State) : State :=
  let s' := s.modWen fun w => w.setCurve c v
  match s'.wen.validation with
  | some i => s'.raiseAlert .calInvalid i t
  | none => s'

/-! ### Lookup and mass (R54 to R57) -/

/-- A grid angle θ_i (R47). -/
def MachineRecord.gridAngle (r : MachineRecord) (i : Nat) : Int := r.theta0 + (i : Int) * r.dTheta

/-- The grid interval of an angle: the floor, limited to N − 2 (R54). -/
def MachineRecord.gridIndex (r : MachineRecord) (theta : Int) : Nat :=
  min ((theta - r.theta0).toNat / r.dTheta) (r.n - 2)

/-- A curve's value at an angle within the grid (R54). -/
def MachineRecord.lookup (r : MachineRecord) (curve : List Int) (theta : Int) : Int :=
  let i := r.gridIndex theta
  let lo := curve.getD i 0
  let hi := curve.getD (i + 1) 0
  lo + rdiv ((hi - lo) * (theta - r.gridAngle i)) r.dTheta

/-- The instantaneous mass of a force between the two curve values (R56). -/
def MachineRecord.mass (r : MachineRecord) (f e l : Int) : Int := rdiv ((r.mRef : Int) * (f - e)) (l - e)

/-- The mass of a sample with F and θ_eff, from both curves (R54, R56); none while a curve is empty. -/
def Wen.sampleMass (w : Wen) (r : MachineRecord) (f theta : Int) : Option Int :=
  match w.curveE, w.curveL with
  | some e, some l => some (r.mass f (r.lookup e theta) (r.lookup l theta))
  | _, _ => none

/-! ### Speed bands (R64, R66) -/

/-- The band that covers a speed: the first used band, in index order, whose upper bound is at least ω (R66). -/
def bandFor (bands : Vector Band 8) (omega : Int) : Option Band :=
  bands.toList.find? fun b => decide (b.upper ≠ 0) && decide (omega ≤ b.upper)

/-- The corrected mass m′ (R66). -/
def Band.correct (b : Band) (m : Int) : Int := rdiv (m * (1000 + b.correction)) 1000

/-- At least one band is used (R201). -/
def anyBandUsed (bands : Vector Band 8) : Bool := bands.toList.any fun b => decide (b.upper ≠ 0)

/-- The lowest index at which a band table breaks a check of R65: `prev` is the bound of the used entry before,
`unusedSeen` tells that an entry of lower index is unused. -/
def bandsFailure (i : Nat) (prev : Nat) (unusedSeen : Bool) : List Band → Option Nat
  | [] => none
  | b :: bs =>
    if 6000 < b.upper ∨ b.correction < -200 ∨ 200 < b.correction then some i
    else if b.upper = 0 then bandsFailure (i + 1) prev true bs
    else if unusedSeen = true ∨ b.upper ≤ prev then some i
    else bandsFailure (i + 1) b.upper false bs

end Sys2Proof.Machine
end

