-- ==== Sys2Proof/Machine/Loads.lean ====
section
/-! DEFINITION. LAC: adding a bucket, OVERLOAD, cancelling, closing, and the totals (R124 to R142). The time `t` of
each operation is the time of the event it belongs to (log entry 17). -/

namespace Sys2Proof.Machine

/-! ### The current load -/

/-- The sum of the present masses of a bucket list (R124). -/
def massSum (bs : List BucketRecord) : Nat := (bs.map fun b => b.handed.mass.getD 0).sum

/-- The number of records of a bucket list whose mass is absent (R124). -/
def absentCount (bs : List BucketRecord) : Nat := bs.countP fun b => b.handed.mass.isNone

/-- The load with another bucket list: total, unweighed count and INCOMPLETE follow the list (R124). -/
def Load.withBuckets (l : Load) (bs : List BucketRecord) : Load :=
  { l with buckets := bs, total := massSum bs, unweighed := absentCount bs,
           incomplete := decide (absentCount bs ≠ 0) }

/-- The fill of a mass on a density and a rated volume, in tenths of a percent, clamped to 0..2,000 (R129). -/
def fillOf (mass rho volume : Nat) : Nat := (clamp 0 2000 (rdiv ((mass : Int) * 1000000) ((rho : Int) * volume))).toNat

/-- The rated volume in force: the Machine Record's V. An addition is made in RUN, which needs a PRESENT record
(R128); without one it reads 0 (log entry 12). -/
def State.ratedVolume (s : State) : Nat := (s.wen.record.map (·.volume)).getD 0

/-- The total is above target plus tolerance, with a target (R131). -/
def Load.exceeds (l : Load) : Bool := decide (l.target ≠ 0) && decide (l.target + l.tolerance < l.total)

/-- Evaluate OVERLOAD (R131): the flag follows the limit, and the first crossing of a load raises
OVERLOAD_ALERT with the excess. -/
def State.evalOverload (t : Time) (s : State) : State :=
  let l := s.lac.load
  if l.exceeds then
    let s' := s.modLac fun a => { a with load := { a.load with overload := true, alerted := true } }
    if l.alerted then s' else s'.raiseAlert .overloadAlert (min max16 (l.total - (l.target + l.tolerance))) t
  else s.modLac fun a => { a with load := { a.load with overload := false } }

/-! ### Closing (R134) -/

/-- Per-material totals increased by a closed load (R134 step 3, R137). -/
def MaterialTotals.addLoad (m : MaterialTotals) (l : Load) : MaterialTotals :=
  { trucks := satAdd max32 m.trucks 1, buckets := satAdd max32 m.buckets l.buckets.length,
    unweighed := satAdd max32 m.unweighed l.unweighed, mass := satAdd max32 m.mass l.total }

/-- The totals of a load's material increased by a closed load. -/
def Totals.addLoad (x : Totals) (l : Load) : Totals :=
  { x with materials := x.materials.set l.material (x.materials[l.material].addLoad l) }

/-- The completed-loads list with a new summary: the oldest leaves when 8 are held; at the number wrap the list is
emptied instead (R125, R134). -/
def completedAfter (list : List Summary) (sm : Summary) : List Summary :=
  if sm.load.number = max32 then []
  else (if list.length < Config.capCompleted then list else list.drop 1) ++ [sm]

/-- The load that opens after a closing (R134 step 5). -/
def Lac.nextLoad (a : Lac) (t : Time) : Load :=
  { number := if a.load.number = max32 then 1 else a.load.number + 1,
    material := a.nextMaterial.getD a.load.material, target := a.target, tolerance := a.tolerance,
    buckets := [], total := 0, unweighed := 0, openTime := t, incomplete := false, overload := false,
    alerted := false }

/-- The LOAD_CLOSED frame, kind 3 (R142, R212). -/
def State.loadClosedFrame (l : Load) (by' : ClosedBy) (s : State) : Frame :=
  s.displayFrame 3 [(24, l.number), (20, l.total), (4, l.material.val), (5, l.buckets.length), (5, l.unweighed),
    (2, by'.code), (1, l.overload.toNat)]

/-- Close the current load and open the next (R134). -/
def State.closeLoadNow (by' : ClosedBy) (t : Time) (s : State) : State :=
  let l := s.lac.load
  let filed := s.modLac fun a =>
    { a with completed := completedAfter a.completed ⟨a.load, t, by'⟩, totals := a.totals.addLoad a.load }
  (filed.offerE (filed.loadClosedFrame l by')).modLac fun a =>
    { a with load := a.nextLoad t, nextMaterial := none }

/-- NEXT_TRUCK from a line or a command: a closing on a load that holds a record; nothing on an empty one
(R135). -/
def State.nextTruck (by' : ClosedBy) (t : Time) (s : State) : State :=
  if s.lac.load.buckets = [] then s else s.closeLoadNow by' t

/-- CANCEL_LAST from a line or a command: the newest record removed and OVERLOAD evaluated; nothing on an empty
load (R133). -/
def State.cancelLast (t : Time) (s : State) : State :=
  if s.lac.load.buckets = [] then s
  else (s.modLac fun a => { a with load := a.load.withBuckets a.load.buckets.dropLast }).evalOverload t

/-! ### Adding a bucket (R128) -/

/-- Class and reason of a BUCKET frame (R212). -/
def bucketClassCode (c : ResultClass) (r : Option Reason) : Nat :=
  match c, r with
  | .weighed, _ => 0
  | .unsteady, _ => 1
  | .partialLift, _ => 2
  | .notWeighed, some .signal => 4
  | .notWeighed, some .noWindow => 5
  | .notWeighed, _ => 3

/-- A set of flags as bits, the first flag in bit 0. -/
def flagBits (flags : List Bool) : Nat := flags.foldr (fun b n => b.toNat + 2 * n) 0

/-- The BUCKET frame of a record added to a load, kind 2 (R142, R212); `l` is the load after the addition. -/
def State.bucketFrame (l : Load) (b : BucketRecord) (s : State) : Frame :=
  s.displayFrame 2 [(5, b.position), (3, bucketClassCode b.handed.cls b.handed.reason),
    (3, flagBits [b.handed.belowZero, b.handed.overRange, b.handed.reweighed]), (5, l.number),
    (16, b.handed.mass.getD 0xFFFF), (11, b.fill.getD 0x7FF), (6, coarse 1000 63 b.handed.digToDump.toNat),
    (14, coarse 100 9600 l.total)]

/-- A full load is closed AUTO before the next record, with LOAD_AUTO_CLOSED raised (R130). -/
def State.autoClose (t : Time) (s : State) : State :=
  if s.lac.load.buckets.length < Config.capBuckets then s
  else (s.closeLoadNow .auto t).raiseAlert .loadAutoClosed s.lac.load.number t

/-- The record as it joins the current load: fill and position added (R128 steps 2 and 3, R129). -/
def State.bucketRecord (h : HandedRecord) (s : State) : BucketRecord :=
  { handed := h, fill := h.mass.map fun m => fillOf m s.lac.materials[s.lac.load.material] s.ratedVolume,
    position := s.lac.load.buckets.length + 1 }

/-- Append a record to the current load and offer its BUCKET frame (R128 steps 3 to 5). -/
def State.appendBucket (b : BucketRecord) (s : State) : State :=
  let s' := s.modLac fun a => { a with load := a.load.withBuckets (a.load.buckets ++ [b]) }
  s'.offerE (s'.bucketFrame s'.lac.load b)

/-- LAC takes a bucket record from CYT (R128). -/
def State.addBucket (h : HandedRecord) (t : Time) (s : State) : State :=
  let s' := s.autoClose t
  (s'.appendBucket (s'.bucketRecord h)).evalOverload t

/-! ### Counts requested by CYT (R119) -/

/-- One more cycle. -/
def State.countCycle (s : State) : State :=
  s.modLac fun a => { a with totals := { a.totals with cycles := satAdd max32 a.totals.cycles 1 } }
/-- One more returned pass. -/
def State.countReturned (s : State) : State :=
  s.modLac fun a => { a with totals := { a.totals with returned := satAdd max32 a.totals.returned 1 } }
/-- One more tare pass. -/
def State.countTarePass (s : State) : State :=
  s.modLac fun a => { a with totals := { a.totals with tarePasses := satAdd max32 a.totals.tarePasses 1 } }

/-! ### Materials -/

/-- A material is in use: the current load's, or the next-material (R126). -/
def Lac.inUse (a : Lac) (k : Nat) : Bool :=
  decide (a.load.material.val = k) || decide (a.nextMaterial.map (·.val) = some k)

/-- Remaining to target in 10 kg units, rounded and saturated; absent without a target (R141). -/
def Load.remaining (l : Load) : Option Int :=
  if l.target = 0 then none else some (clamp (-32767) 32767 (rdiv ((l.target : Int) - l.total) 10))

end Sys2Proof.Machine
end

