-- ==== Sys2Proof/Machine/Results.lean ====
section
/-! DEFINITION. The end of a weighing window: the result, the tare pass, and what CYT does with a result (R68 to R79,
R82, R110 to R113). -/

namespace Sys2Proof.Machine

/-! ### The result (R74 to R76) -/

/-- The masses of the stored samples. -/
def Window.masses (w : Window) : List Int := w.samples.map (·.1)

/-- A mass put into its place in a sorted list. -/
def insertSorted (x : Int) : List Int → List Int
  | [] => [x]
  | y :: ys => if x ≤ y then x :: y :: ys else y :: insertSorted x ys

/-- A list of masses sorted from the lowest up (R75). -/
def sortMasses : List Int → List Int
  | [] => []
  | x :: xs => insertSorted x (sortMasses xs)

/-- How many samples are trimmed at each end: floor(n × trim / 1000) (R75). -/
def trimCount (n trim : Nat) : Nat := n * trim / 1000

/-- The sorted samples without the t lowest and the t highest (R75). -/
def trimmed (ms : List Int) (trim : Nat) : List Int :=
  let t := trimCount ms.length trim
  ((sortMasses ms).drop t).take (ms.length - 2 * t)

/-- The trimmed mean, rounded (R75). -/
def trimmedMean (ms : List Int) (trim : Nat) : Int := rdiv (trimmed ms trim).sum (trimmed ms trim).length

/-- The spread of the samples that remain: the largest minus the smallest (R75). -/
def trimmedSpread (ms : List Int) (trim : Nat) : Nat :=
  ((trimmed ms trim).getLastD 0 - (trimmed ms trim).headD 0).toNat

/-- The reason of a NOT_WEIGHED result, when the ending gives one whatever the samples (R74). -/
def Ending.reason : Ending → Option Reason
  | .lost => some .signal
  | .parked => some .parked
  | .mode => some .mode
  | .closed | .reversed | .timeout | .dumped => none

/-- The class of a result that carries a mass (R74): a CLOSED window is UNSTEADY when its spread exceeds a nonzero
limit. -/
def massClass (e : Ending) (spread limit : Nat) : ResultClass :=
  if e = .closed then (if limit ≠ 0 ∧ limit < spread then .unsteady else .weighed) else .partialLift

/-- A NOT_WEIGHED result: no mean, mass or spread, and t is 0 (R74). -/
def Window.notWeighed (w : Window) (e : Ending) (reason : Reason) (kind : ResultKind) (t : Time) : WindowResult :=
  { ending := e, cls := .notWeighed, reason := some reason, kind := kind, mean := none, mass := none,
    belowZero := false, overRange := false, spread := none, n := w.samples.length, t := 0, counts := w.counts,
    openTime := w.openTime, endTime := t }

/-- A result that carries a mass: m_b is the mean less the tare, limited to 0..60,000 kg with its flags (R74 to
R76). -/
def Window.weighed (w : Window) (r : MachineRecord) (e : Ending) (kind : ResultKind) (tare : Int) (t : Time) :
    WindowResult :=
  let mean := trimmedMean w.masses r.trim
  let spread := trimmedSpread w.masses r.trim
  { ending := e, cls := massClass e spread r.spreadLimit, reason := none, kind := kind, mean := some mean,
    mass := some (clamp 0 60000 (mean - tare)).toNat, belowZero := decide (mean - tare < 0),
    overRange := decide (60000 < mean - tare), spread := some spread, n := w.samples.length,
    t := trimCount w.samples.length r.trim, counts := w.counts, openTime := w.openTime, endTime := t }

/-- The result of a window that ends (R74). A window is OPEN only with a PRESENT record; without one the result is
NOT_WEIGHED(FEW) (log entry 12). -/
def Wen.result (x : Wen) (w : Window) (e : Ending) (t : Time) : WindowResult :=
  let kind : ResultKind := if x.tareArmed then .tarePass else .bucket
  match e.reason, x.record with
  | some reason, _ => w.notWeighed e reason kind t
  | none, none => w.notWeighed e .few kind t
  | none, some r =>
    if r.nMin ≤ w.samples.length then w.weighed r e kind x.tare t else w.notWeighed e .few kind t

/-! ### The tare pass (R82) -/

/-- Code of the TARE_REFUSED detail of a class: UNSTEADY, PARTIAL, NOT_WEIGHED; LIMIT for a WEIGHED pass outside the
limits (R82, R210). -/
def tareRefusedCode : ResultClass → Nat
  | .weighed => 0
  | .unsteady => 1
  | .partialLift => 2
  | .notWeighed => 3

/-- A WEIGHED pass's mean when it lies within −2,000..2,000 kg (R82). -/
def WindowResult.newTare (r : WindowResult) : Option Int :=
  match r.cls, r.mean with
  | .weighed, some m => if -2000 ≤ m ∧ m ≤ 2000 then some m else none
  | _, _ => none

/-- WEN applies a tare pass: the new tare, or TARE_REFUSED, which a MODE ending does not raise; tare armed is
cleared (R77 step 2, R82). -/
def State.applyTarePass (r : WindowResult) (s : State) : State :=
  let s' := s.modWen fun w => { w with tareArmed := false }
  match r.newTare with
  | some m => s'.modWen fun w => { w with tare := m }
  | none => if r.reason = some .mode then s' else s'.raiseAlert .tareRefused (tareRefusedCode r.cls) r.endTime

/-! ### CYT and a result (R110 to R113) -/

/-- The pending record of a BUCKET result (R111). -/
def WindowResult.pendingRecord (r : WindowResult) (reweighed : Bool) : PendingRecord :=
  { mass := r.mass, cls := r.cls, reason := r.reason, belowZero := r.belowZero, overRange := r.overRange,
    reweighed := reweighed, ending := r.ending, n := r.n, counts := r.counts, endTime := r.endTime }

/-- The cycle state after a result taken in LIFT or CARRY: a CLOSED one moves to CARRY (R110). -/
def cycleAfterResult (c : CycleState) (e : Ending) : CycleState := if e = .closed then .carry else c

/-- CYT uses a result: it reaches CYT in LIFT or CARRY and its reason is neither PARKED nor MODE (R113). -/
def Cyt.uses (c : Cyt) (r : WindowResult) : Bool :=
  (decide (c.state = .lift) || decide (c.state = .carry))
    && decide (r.reason ≠ some .parked) && decide (r.reason ≠ some .mode)

/-- CYT takes a window result (R110, R112) or discards it (R113). -/
def Cyt.take (c : Cyt) (r : WindowResult) : Cyt :=
  if c.uses r then
    match r.kind with
    | .bucket =>
      { c with pending := some (r.pendingRecord c.pending.isSome), marker := false,
               state := cycleAfterResult c.state r.ending }
    | .tarePass => { c with pending := none, marker := true, state := cycleAfterResult c.state r.ending }
  else c

/-! ### The end of the window (R77) -/

/-- UNSTEADY_BUCKET is raised once by an UNSTEADY result, with its spread (R79). -/
def State.raiseUnsteady (r : WindowResult) (s : State) : State :=
  if r.cls = .unsteady then s.raiseAlert .unsteadyBucket (min max16 (r.spread.getD 0)) r.endTime else s

/-- An OPEN window ends with this ending at `t`; a window that is NONE stays NONE and nothing happens (R73). The
result is formed, becomes the last result, acts on the tare when it is a tare pass, and is handed to CYT (R77).
MGT's deferred change is applied later, once the ending event is handled whole (R199). -/
def State.endWindow (e : Ending) (t : Time) (s : State) : State :=
  match s.wen.window with
  | none => s
  | some w =>
    let r := s.wen.result w e t
    let s1 := s.raiseUnsteady r
    let s2 := s1.modWen fun x => { x with lastResult := some r, window := none }
    let s3 := if r.kind = .tarePass then s2.applyTarePass r else s2
    s3.modCyt fun c => c.take r

/-! ### CYT set aside (R120) -/

/-- CYT goes to IDLE: pending discarded uncounted, marker clear, cycle start absent, tip detector DISARMED; the last
cycle time is kept (R120). -/
def Cyt.toIdle (c : Cyt) : Cyt :=
  { c with state := .idle, pending := none, marker := false, start := none, tipArmed := false }

end Sys2Proof.Machine
end

