-- ==== Sys2Proof/Machine/Cycle.lean ====
section
/-! DEFINITION. CYT: evaluations, the tip detector and dump events (R103 to R119). -/

namespace Sys2Proof.Machine

/-- CYT works: the mode is RUN and the power state is RUNNING (R103, R114, R115). -/
def State.tracking (s : State) : Bool := decide (s.mgt.mode = .run) && decide (s.din.power = .running)

/-! ### Evaluations (R103 to R109) -/

/-- The release threshold of a dig: F_dig less its eighth, rounded (R106). -/
def MachineRecord.release (r : MachineRecord) : Int := (r.fDig : Int) - rdiv r.fDig 8

/-- A present input that meets a test; an absent one makes no test (R103). -/
def meets (v : Option Int) (p : Int → Bool) : Bool :=
  match v with
  | some x => p x
  | none => false

/-- The state that the tests of the current state choose (R104). -/
def MachineRecord.nextCycle (r : MachineRecord) (c : CycleState) (theta : Int) (f thetaEff : Option Int) :
    CycleState :=
  match c with
  | .idle => if theta ≤ r.thetaDig ∧ meets f (fun x => decide ((r.fDig : Int) ≤ x)) = true then .dig else .idle
  | .dig =>
    if r.thetaDig + r.h < theta then .lift
    else if theta ≤ r.thetaDig ∧ meets f (fun x => decide (x < r.release)) = true then .idle
    else .dig
  | .lift => if theta ≤ r.thetaDig then .idle else .lift
  | .carry => if meets thetaEff (fun x => decide (x < r.thetaLo - r.h)) then .lift else .carry
  | .lower => if theta ≤ r.thetaDig then .idle else .lower

/-- Entry into DIG at `t`: the last cycle time is measured from the latest entry, and the start time becomes `t`
(R105). -/
def Cyt.enterDig (c : Cyt) (t : Time) : Cyt :=
  { c with state := .dig, start := some t,
           lastCycle := match c.start with
             | some t0 => t - t0
             | none => c.lastCycle }

/-- A returned pass: IDLE, the pending bucket discarded, the marker cleared, and one returned pass counted (R107). -/
def State.returnPass (s : State) : State :=
  (s.modCyt fun c => { c with state := .idle, pending := none, marker := false }).countReturned

/-- The transition to a chosen state is carried out, for a value accepted at `t`. -/
def State.cycleTo (next : CycleState) (t : Time) (s : State) : State :=
  if next = s.cyt.state then s
  else if next = .dig then s.modCyt fun c => c.enterDig t
  else if s.cyt.state = .lift ∧ next = .idle then s.returnPass
  else s.modCyt fun c => { c with state := next }

/-- CYT's evaluation for a BOOM or HEAD value accepted at `t` (R103): in RUN while RUNNING, with BOOM and HEAD
VALID. -/
def State.evaluate (t : Time) (s : State) : State :=
  if s.tracking then
    match s.wen.record, s.sig.boom.usable, s.sig.head.usable with
    | some r, some theta, some _ => s.cycleTo (r.nextCycle s.cyt.state theta s.force s.thetaEff) t
    | _, _, _ => s
  else s

/-! ### Dump events (R115 to R119) -/

/-- The bucket record handed to LAC at a dump (R117). The cycle start time is present in LIFT and CARRY; without one
the dig-to-dump time reads 0 (log entry 12). -/
def Cyt.handed (c : Cyt) (t : Time) : HandedRecord :=
  let dig := t - c.start.getD t
  match c.pending with
  | some p =>
    { mass := p.mass, cls := p.cls, reason := p.reason, belowZero := p.belowZero, overRange := p.overRange,
      reweighed := p.reweighed, digToDump := dig, dumpTime := t, n := p.n }
  | none =>
    { mass := none, cls := .notWeighed, reason := some .noWindow, belowZero := false, overRange := false,
      reweighed := false, digToDump := dig, dumpTime := t, n := 0 }

/-- Steps 2 and 3 of R116: a tare cycle is counted as a tare pass, any other hands one record to LAC and is counted
as a cycle. -/
def State.dumpRecord (t : Time) (s : State) : State :=
  if s.cyt.marker then s.countTarePass else (s.addBucket (s.cyt.handed t) t).countCycle

/-- A dump event at `t` (R116), ignored outside RUN or while PARKED (R115) and in IDLE, DIG and LOWER (R118). -/
def State.dumpEvent (t : Time) (s : State) : State :=
  if s.tracking && (decide (s.cyt.state = .lift) || decide (s.cyt.state = .carry)) then
    ((s.endWindow .dumped t).dumpRecord t).modCyt fun c =>
      { c with pending := none, marker := false, state := .lower }
  else s

/-- CYT's dump test of a TILT value accepted at `t` (R114). -/
def State.tipTest (v : Int) (t : Time) (s : State) : State :=
  if s.tracking then
    match s.wen.record with
    | none => s
    | some r =>
      if s.cyt.tipArmed then
        if v ≤ r.thetaDump then (s.modCyt fun c => { c with tipArmed := false }).dumpEvent t else s
      else if r.thetaDump + r.h < v then s.modCyt fun c => { c with tipArmed := true }
      else s
  else s

end Sys2Proof.Machine
end

