-- ==== Sys2Proof/Machine/Windows.lean ====
section
/-! DEFINITION. WEN's test points in RUN: the opening, the samples, the ending tests, and the live mass (R60 to R68,
R78, R80). -/

namespace Sys2Proof.Machine

/-! ### Samples (R63, R66, R67) -/

/-- What a weighing sample comes to: rejected for the first test it fails, or accepted with its corrected mass. -/
inductive SampleOutcome
  | staleInput
  | outside
  | stall
  | overspeed (omega : Int)
  | outOfRange
  | accepted (m : Int)
deriving DecidableEq, Repr

/-- The inputs of test 1 are VALID: HEAD and BOOM, and ROD and PITCH if mapped; then F and θ_eff are at hand
(R63). -/
def State.sampleInputs (s : State) : Option (Int × Int) :=
  match s.force, s.thetaEff with
  | some f, some th => some (f, th)
  | _, _ => none

/-- The tests of R63 in their order. The lookup needs both curves, which RUN guarantees; without them the sample is
counted OUT_OF_RANGE (log entry 12). -/
def State.sampleOutcome (r : MachineRecord) (s : State) : SampleOutcome :=
  match s.sampleInputs with
  | none => .staleInput
  | some (f, th) =>
    if th < r.thetaLo ∨ r.thetaHi < th then .outside
    else
      match s.sig.omega with
      | none => .stall
      | some om =>
        if om < r.omegaMin then .stall
        else
          match bandFor s.wen.bands om with
          | none => .overspeed om
          | some b =>
            match s.wen.sampleMass r f th with
            | none => .outOfRange
            | some m => if m < -20000 ∨ 80000 < m then .outOfRange else .accepted (b.correct m)

/-- One more on a saturating rejection count. -/
def bump (n : Nat) : Nat := satAdd max16 n 1

/-- An accepted sample is stored while the buffer holds fewer than 128, and counted EXCESS otherwise (R67). -/
def Window.store (w : Window) (m : Int) (t : Time) : Window :=
  if w.samples.length < Config.capSamples then { w with samples := w.samples ++ [(m, t)], sum := w.sum + m }
  else { w with counts := { w.counts with excess := bump w.counts.excess } }

/-- The window after a sample at `t` (R63, R67, R78). -/
def Window.afterSample (w : Window) (o : SampleOutcome) (t : Time) : Window :=
  match o with
  | .staleInput => { w with counts := { w.counts with staleInput := bump w.counts.staleInput } }
  | .outside => { w with counts := { w.counts with outside := bump w.counts.outside } }
  | .stall => { w with counts := { w.counts with stall := bump w.counts.stall } }
  | .overspeed _ =>
    { w with counts := { w.counts with overspeed := bump w.counts.overspeed }, overspeed := true }
  | .outOfRange => { w with counts := { w.counts with outOfRange := bump w.counts.outOfRange } }
  | .accepted m => w.store m t

/-- A sample that has an F sets the latest F and θ_eff (R59; log entry 11). -/
def State.noteLatest (t : Time) (s : State) : State :=
  match s.force with
  | some f => s.modWen fun w => { w with latest := some ⟨f, s.thetaEff, t⟩ }
  | none => s

/-- OVERSPEED_LIFT is raised by the first OVERSPEED rejection of a window, with ω as detail (R78). -/
def State.raiseOverspeed (w : Window) (o : SampleOutcome) (t : Time) (s : State) : State :=
  match o with
  | .overspeed om => if w.overspeed then s else s.raiseAlert .overspeedLift (min max16 om.toNat) t
  | .staleInput | .outside | .stall | .outOfRange | .accepted _ => s

/-- Step 3 of R61: one weighing sample in an OPEN window, for a HEAD value accepted at `t`. -/
def State.weighSample (r : MachineRecord) (t : Time) (s : State) : State :=
  match s.wen.window with
  | none => s
  | some w =>
    let o := s.sampleOutcome r
    ((s.noteLatest t).modWen fun x => { x with window := some (w.afterSample o t) }).raiseOverspeed w o t

/-! ### Opening and ending (R62, R68) -/

/-- The window as it opens at a test point (R62). -/
def Window.opened (r : MachineRecord) (theta : Int) (t : Time) : Window :=
  { openTime := t, timeout := Time.plus t r.windowTimeout, highest := theta, samples := [], sum := 0,
    counts := Counts.zero, overspeed := false }

/-- Step 2 of R61: the opening test. -/
def State.openTest (r : MachineRecord) (theta : Option Int) (t : Time) (s : State) : State :=
  match s.wen.window, s.wen.prevTheta, theta with
  | none, some prev, some th =>
    if s.cyt.state = .lift ∧ prev < r.thetaLo ∧ r.thetaLo ≤ th then
      s.modWen fun w => { w with window := some (Window.opened r th t) }
    else s
  | _, _, _ => s

/-- Step 4 of R61: the ending tests CLOSED and REVERSED (R68). -/
def State.endTest (r : MachineRecord) (theta : Option Int) (t : Time) (s : State) : State :=
  match s.wen.window, theta with
  | some w, some th =>
    if r.thetaHi ≤ th then s.endWindow .closed t
    else
      let top := max w.highest th
      let s' := s.modWen fun x => { x with window := some { w with highest := top } }
      if th ≤ top - r.h then s'.endWindow .reversed t else s'
  | _, _ => s

/-- WEN's test point in RUN for a BOOM or HEAD value accepted at `t` (R61). -/
def State.testPoint (isHead : Bool) (t : Time) (s : State) : State :=
  if s.tracking then
    match s.wen.record with
    | none => s
    | some r =>
      let theta := s.thetaEff
      let s2 := s.openTest r theta t
      let s3 := if isHead then s2.weighSample r t else s2
      let s4 := s3.endTest r theta t
      s4.modWen fun w => { w with prevTheta := theta }
  else s

/-! ### Live mass (R80) -/

/-- The running mean of an OPEN window with samples (R80, R84). -/
def Window.runningMean (w : Window) : Option Int :=
  if w.samples = [] then none else some (rdiv w.sum w.samples.length)

/-- The mass of the newest record of the current load, or 0 (R80). -/
def Load.newestMass (l : Load) : Nat :=
  match l.buckets.getLast? with
  | some b => b.handed.mass.getD 0
  | none => 0

/-- The live mass derived from the state as it stands (R80). -/
def State.liveMass (s : State) : Nat :=
  match s.wen.window.bind Window.runningMean with
  | some mean => (clamp 0 60000 (mean - s.wen.tare)).toNat
  | none =>
    match s.cyt.pending.bind (·.mass) with
    | some m => m
    | none => s.lac.load.newestMass

end Sys2Proof.Machine
end

