-- ==== Sys2Proof/Machine/Modes.lean ====
section
/-! DEFINITION. MGT's mode: the conditions of entering RUN and CALIBRATE, the effects of a change, and the deferred
change (R85, R197 to R201). -/

namespace Sys2Proof.Machine

/-- What a NOT_READY response names (R184, R210). -/
inductive NotReady
  | machine
  | head
  | boom
  | curves
  | bands
  | material
deriving DecidableEq, Repr

/-- Code of a NOT_READY detail; 0 is unused (R210). -/
def NotReady.code : NotReady → Nat
  | .machine => 1
  | .head => 2
  | .boom => 3
  | .curves => 4
  | .bands => 5
  | .material => 6

/-- The first condition of entering CALIBRATE that fails (R85). -/
def State.calibrateBlock (s : State) : Option NotReady :=
  if s.wen.record = none then some .machine
  else if s.sig.head.mapped = false then some .head
  else if s.sig.boom.mapped = false then some .boom
  else none

/-- The current load's material is used (R126). -/
def Lac.materialUsed (a : Lac) : Bool := decide (a.materials[a.load.material] ≠ 0)

/-- The first condition of entering RUN that fails (R201). -/
def State.runBlock (s : State) : Option NotReady :=
  if s.wen.record = none then some .machine
  else if s.sig.head.mapped = false then some .head
  else if s.sig.boom.mapped = false then some .boom
  else if s.wen.curveState ≠ .valid then some .curves
  else if anyBandUsed s.wen.bands = false then some .bands
  else if s.lac.materialUsed = false then some .material
  else none

/-- Number of grid points of the record in force. -/
def Wen.gridPoints (w : Wen) : Nat := (w.record.map (·.n)).getD 0

/-- A calibration as it is set up: every sum 0, run ARMED with no start sample (R85, R86). -/
def Calibration.start (target : CurveName) (runs points : Nat) : Calibration :=
  { target := target, runs := runs, done := 0, sums := List.replicate points 0, run := .armed none, broken := 0 }

/-- The mode that a change enters, with the target and R of a calibration. -/
inductive ModeTarget
  | config
  | run
  | calibrate (target : CurveName) (runs : Nat)
deriving DecidableEq, Repr

/-- The mode of a change. -/
def ModeTarget.mode : ModeTarget → Mode
  | .config => .config
  | .run => .run
  | .calibrate _ _ => .calibrate

/-- Target and R of a change to CALIBRATE. -/
def ModeTarget.cal : ModeTarget → Option (CurveName × Nat)
  | .calibrate c r => some (c, r)
  | .config | .run => none

/-- The calibration after a change of mode: set up on entering CALIBRATE, NONE in the other modes (R86, R99,
R200). -/
def ModeTarget.calibration (m : ModeTarget) (points : Nat) : Option Calibration :=
  match m with
  | .calibrate c r => some (Calibration.start c r points)
  | .config | .run => none

/-- What leaving RUN does: CYT to IDLE and tare armed cleared without TARE_REFUSED (R81, R120, R200). -/
def State.leaveRun (s : State) : State :=
  (s.modCyt Cyt.toIdle).modWen fun w => { w with tareArmed := false }

/-- What entering RUN does: previous θ_eff absent and tip detector DISARMED (R61, R114, R200). -/
def State.enterRun (s : State) : State :=
  (s.modCyt fun c => { c with tipArmed := false }).modWen fun w => { w with prevTheta := none }

/-- A change of mode at `t`: the blocks take it, and then MGT offers its NOTICE (R200). The latest F and θ_eff are
cleared (R59). DEDUCED (log entry 19): also when a SET_MODE CALIBRATE is applied in CALIBRATE, which R198 calls a mode
change for the purpose of R200. -/
def State.changeMode (m : ModeTarget) (cause : NoticeCause) (t : Time) (s : State) : State :=
  let old := s.mgt.mode
  let s1 := if old = .run ∧ m.mode ≠ .run then s.leaveRun else s
  let s2 := if m.mode = .run then s1.enterRun else s1
  let s3 := s2.modWen fun w => { w with latest := none, calibration := m.calibration w.gridPoints }
  let s4 := s3.modMgt fun x => { x with mode := m.mode }
  s4.noticeMode m.mode old m.cal cause t

/-- The change a deferred change asks for. -/
def Deferred.target : Deferred → ModeTarget
  | .config => .config
  | .calibrate c r => .calibrate c r

/-- MGT applies a deferred change once the event that ended the window has been handled whole: one is stored and the
window is NONE. It is then removed (R199). The conditions of a change to CALIBRATE are tested at that moment (R85);
they cannot fail then. -/
def State.applyDeferred (t : Time) (s : State) : State :=
  match s.mgt.deferred, s.wen.window with
  | some d, none =>
    let s' := s.modMgt fun m => { m with deferred := none }
    match d with
    | .config => s'.changeMode .config .deferred t
    | .calibrate c r =>
      if s.calibrateBlock = none then s'.changeMode (.calibrate c r) .deferred t else s'
  | _, _ => s

end Sys2Proof.Machine
end

