-- ==== Sys2Proof/Machine/Calibrations.lean ====
section
/-! DEFINITION. Calibration runs: the test points, point capture, the breaks and the completion (R86 to R100). -/

namespace Sys2Proof.Machine

/-- Outcome of a CAL_PROGRESS frame (R97). -/
inductive ProgressOutcome
  | done
  | broken (reason : BreakReason)
  | complete (state : CurveState)
deriving DecidableEq, Repr

/-- Code of a CAL_PROGRESS outcome (R210). -/
def ProgressOutcome.code : ProgressOutcome → Nat
  | .done => 0
  | .broken _ => 1
  | .complete _ => 2

/-- The break reason field: 7 unless BROKEN (R212). -/
def ProgressOutcome.reasonField : ProgressOutcome → Nat
  | .broken r => r.code
  | .done | .complete _ => 7

/-- The curve state field: 7 unless COMPLETE (R212). -/
def ProgressOutcome.stateField : ProgressOutcome → Nat
  | .complete c => c.code
  | .done | .broken _ => 7

/-- Offer a CAL_PROGRESS frame, kind 5 (R97, R212). -/
def State.progress (target : CurveName) (run points : Nat) (o : ProgressOutcome) (t : Time) (s : State) : State :=
  s.offerE (s.displayFrame 5 [(1, target.code), (2, o.code), (3, run), (3, o.reasonField), (5, points),
    (3, o.stateField), (7, 0), (32, t.toNat)])

/-- The ACTIVE calibration replaced. -/
def State.setCal (c : Calibration) (s : State) : State := s.modWen fun w => { w with calibration := some c }

/-! ### Point sums (R93) -/

/-- Values added to consecutive sums from index `k` on. -/
def addFrom : List Int → Nat → List Int → List Int
  | [], _, _ => []
  | xs, _, [] => xs
  | x :: xs, 0, v :: vs => (x + v) :: addFrom xs 0 vs
  | x :: xs, k + 1, vs => x :: addFrom xs k vs

/-! ### Breaks (R95) -/

/-- The calibration after its run in RISING breaks: the run values are taken out of the sums, and the run is ARMED
with no start sample (R95). -/
def Calibration.broke (c : Calibration) (values : List Int) : Calibration :=
  { c with sums := addFrom c.sums 0 (values.map fun v => -v), run := .armed none, broken := satAdd max16 c.broken 1 }

/-- A run in RISING ends BROKEN at `t`, with its CAL_PROGRESS frame (R95, R97); no effect on a run in ARMED. -/
def State.breakRun (reason : BreakReason) (t : Time) (s : State) : State :=
  match s.wen.calibration with
  | some c =>
    match c.run with
    | .rising _ _ _ values =>
      (s.setCal (c.broke values)).progress c.target (c.done + 1) values.length (.broken reason) t
    | .armed _ => s
  | none => s

/-- A loss, or the entry to PARKED: a run in RISING breaks, a run in ARMED loses its start sample (R96, R100). -/
def State.interruptRun (reason : BreakReason) (t : Time) (s : State) : State :=
  match s.wen.calibration with
  | some c =>
    match c.run with
    | .rising _ _ _ _ => s.breakRun reason t
    | .armed _ => s.setCal { c with run := .armed none }
  | none => s

/-! ### Completion (R98) -/

/-- The averages of the point sums over R runs (R98 step 1). -/
def Calibration.averages (c : Calibration) : List Int := c.sums.map fun x => rdiv x c.runs

/-- The calibration completes at the sample that ended its last run, at `t` (R98). -/
def State.completeCalibration (c : Calibration) (points : Nat) (t : Time) (s : State) : State :=
  let s1 := s.writeCurve c.target c.averages t
  let s2 := s1.progress c.target c.runs points (.complete s1.wen.curveState) t
  s2.changeMode .config .completion t

/-- A run ends DONE at `t` (R94); `c` holds the sums with the last point captured. -/
def State.runDone (c : Calibration) (points : Nat) (t : Time) (s : State) : State :=
  let c' := { c with done := c.done + 1, run := .armed none }
  let s' := (s.setCal c').progress c.target (c.done + 1) points .done t
  if c.done + 1 < c.runs then s' else s'.completeCalibration c' points t

/-! ### Capture (R92) -/

/-- The grid indices that a sample at `theta` captures: from `k` on, in order, while θ_i ≤ θ_cur (R92). -/
def MachineRecord.captured (r : MachineRecord) (k : Nat) (theta : Int) : List Nat :=
  ((List.range (r.n - k)).map (k + ·)).takeWhile fun i => decide (r.gridAngle i ≤ theta)

/-- The value captured at θ_i between two samples, clamped to the curve range (R92). -/
def MachineRecord.captureValue (r : MachineRecord) (th0 f0 th1 f1 : Int) (i : Nat) : Int :=
  clamp (-524280) 524280 (f0 + rdiv ((f1 - f0) * (r.gridAngle i - th0)) (th1 - th0))

/-- The values a pair of samples captures (R92). -/
def MachineRecord.captures (r : MachineRecord) (k : Nat) (th0 f0 th1 f1 : Int) : List Int :=
  (r.captured k th1).map (r.captureValue th0 f0 th1 f1)

/-- Point capture by a qualifying sample in RISING, which becomes the previous sample; the capture of point N − 1
ends the run DONE (R92, R94). -/
def State.capturePoints (r : MachineRecord) (c : Calibration) (th0 f0 highest : Int) (values : List Int)
    (th1 f1 : Int) (t : Time) (s : State) : State :=
  let vs := r.captures values.length th0 f0 th1 f1
  let c' := { c with sums := addFrom c.sums values.length vs, run := .rising th1 f1 highest (values ++ vs) }
  if r.n ≤ (values ++ vs).length then s.runDone c' r.n t else s.setCal c'

/-! ### Test points (R88 to R91) -/

/-- A HEAD sample in ARMED that passes R89 (R90). -/
def State.armedSample (r : MachineRecord) (c : Calibration) (start : Option (Int × Int)) (th f : Int) (t : Time)
    (s : State) : State :=
  match start with
  | some (th0, f0) =>
    if th0 < th then s.capturePoints r c th0 f0 th [] th f t
    else s.setCal { c with run := .armed (some (th, f)) }
  | none => if th < r.theta0 - r.h then s.setCal { c with run := .armed (some (th, f)) } else s

/-- Tests 2 and 3 of R89: the reason of the first that fails. -/
def speedFault (r : MachineRecord) (omega : Option Int) : Option BreakReason :=
  match omega with
  | none => some .gap
  | some om => if (r.calSpeed : Int) < om then some .speed else none

/-- The reversal test (R91): θ_eff has dropped by H below the highest of the run, itself included. -/
def reversed (r : MachineRecord) (highest th : Int) : Bool := decide (th ≤ max highest th - r.h)

/-- A HEAD test point of a calibration: the tests of R89, then R90 in ARMED, R91 and R92 in RISING. -/
def State.calHead (r : MachineRecord) (c : Calibration) (t : Time) (s : State) : State :=
  match c.run with
  | .armed start =>
    match s.sampleInputs, speedFault r s.sig.omega with
    | some (f, th), none => s.armedSample r c start th f t
    | _, _ => s.setCal { c with run := .armed none }
  | .rising th0 f0 highest values =>
    match s.sampleInputs with
    | none => s.breakRun .signal t
    | some (f, th) =>
      match speedFault r s.sig.omega with
      | some reason => s.breakRun reason t
      | none =>
        if reversed r highest th then s.breakRun .reversed t
        else s.capturePoints r c th0 f0 (max highest th) values th f t

/-- A BOOM test point of a calibration: in RISING with θ_eff present, tests 2 and 3 of R89 and the reversal test
(R89, R91); in ARMED nothing. -/
def State.calBoom (r : MachineRecord) (c : Calibration) (t : Time) (s : State) : State :=
  match c.run, s.thetaEff with
  | .rising th0 f0 highest values, some th =>
    match speedFault r s.sig.omega with
    | some reason => s.breakRun reason t
    | none =>
      if reversed r highest th then s.breakRun .reversed t
      else s.setCal { c with run := .rising th0 f0 (max highest th) values }
  | _, _ => s

/-- WEN's calibration test point for a BOOM or HEAD value accepted at `t` (R88): the mode is CALIBRATE and the power
state RUNNING. -/
def State.calPoint (isHead : Bool) (t : Time) (s : State) : State :=
  if s.mgt.mode = .calibrate ∧ s.din.power = .running then
    match s.wen.record, s.wen.calibration with
    | some r, some c => if isHead then (s.noteLatest t).calHead r c t else s.calBoom r c t
    | _, _ => s
  else s

end Sys2Proof.Machine
end

