-- ==== Sys2Proof/Machine/Readers.lean ====
section
/-! DEFINITION. What follows from an accepted value: WEN's test point, CYT's evaluation or dump test, and a deferred
mode change; the hand-off of a frame to SIG and the encoder's offer (R14, R29, R34, R35, R152, R199). -/

namespace Sys2Proof.Machine

/-- The readers' work on a value accepted into a role's slot at `t` (R34): a HEAD or BOOM value goes to WEN and then
to CYT (R61, R88), a TILT value to the dump test (R114); ROD and PITCH are read later. A deferred change follows the
whole event (R199). -/
def State.readAccepted (r : Role) (v : Int) (t : Time) (s : State) : State :=
  match r with
  | .head => (((s.testPoint true t).calPoint true t).evaluate t).applyDeferred t
  | .boom => (((s.testPoint false t).calPoint false t).evaluate t).applyDeferred t
  | .tilt => (s.tipTest v t).applyDeferred t
  | .rod | .pitch => s

/-- SIG accepts a value and its readers do their work (R34). -/
def State.takeValue (r : Role) (v : Int) (t : Time) (timeout : Option Nat) (s : State) : State :=
  (s.acceptValue r v t timeout).readAccepted r (clampRole r v) t

/-- One hand-off of a frame's bytes, with its arrival time, to an SXT entry (R14, R29 to R34). -/
def State.handOff (bytes : List Byte) (t : Time) (i : Fin 16) (s : State) : State :=
  let e := s.sig.sxt[i]
  match s.extraction e bytes with
  | .nothing => s
  | .short => s.modSlot e.role fun x => { x with short := true }
  | .implausible => s.modSlot e.role fun x => { x with implausible := true }
  | .value v => s.takeValue e.role v t (some e.timeout)

/-- A present reference is handed off; an absent one is not (R14). -/
def State.handOffRef (bytes : List Byte) (t : Time) (ref : Option (Fin 16)) (s : State) : State :=
  match ref with
  | some i => s.handOff bytes t i
  | none => s

/-- The BOOM value that the counter gives (R152). -/
def MachineRecord.boomFromCount (r : MachineRecord) (counter : BitVec 32) : Int :=
  r.indexAngle + rdiv (counter.toInt * r.encNum) r.encDen

/-- DIN's offer of a BOOM value at a tick expiry `t`: made with an ENCODER source in a PRESENT record, HOMED and
RUNNING (R35, R152). -/
def State.offerBoom (t : Time) (s : State) : State :=
  match s.wen.record with
  | some r =>
    if r.boomSource = .encoder ∧ s.din.homing = .homed ∧ s.din.power = .running then
      s.takeValue .boom (r.boomFromCount s.din.counter) t none
    else s
  | none => s

end Sys2Proof.Machine
end

