-- ==== Sys2Proof/Machine/Classifier.lean ====
section
/-! DEFINITION. FCL: matching, policies, the three actions, holding slots and interval timers (R7 to R21), and the
command INTERVAL_TIMER_EXPIRY. -/

namespace Sys2Proof.Machine

/-- A frame under a policy: FORWARD offers it to channel P at once, DROP discards it (R11, R12). -/
def State.underPolicy (p : Policy) (f : Frame) (s : State) : State :=
  match p with
  | .forward => s.offerP f
  | .drop => s

/-- An enabled entry admits an identifier under its mask (R10). -/
def FatEntry.admits (e : FatEntry) (id : BitVec 29) : Bool := e.enabled && decide (id &&& e.mask = e.ident &&& e.mask)

/-- The frame's entry: the lowest-indexed enabled entry that matches (R10). -/
def Fcl.matchEntry (c : Fcl) (id : BitVec 29) : Option (Fin 48) :=
  (List.finRange 48).find? fun i => c.fat[i].admits id

/-- The zone of an identifier: bits 28..26 (R11). -/
def zoneOf (id : BitVec 29) : Fin 8 := ⟨(id.extractLsb' 26 3).toNat, (id.extractLsb' 26 3).isLt⟩

/-- FCL's slot and timer of one entry set. -/
def Fcl.setHolding (c : Fcl) (i : Fin 48) (slot : Option Frame) (timer : Option Time) : Fcl :=
  { c with held := c.held.set i slot, timers := c.timers.set i timer }

/-- Every holding slot emptied and every interval timer IDLE (R20, R21). -/
def Fcl.clearHolding (c : Fcl) : Fcl :=
  { c with held := Vector.replicate 48 none, timers := Vector.replicate 48 none }

/-- The FORWARD action of an entry (R16, R17). The timer starts from the current timebase value. -/
def State.forwardFrame (i : Fin 48) (e : FatEntry) (f : Frame) (s : State) : State :=
  if e.forward = false then s
  else if e.interval = 0 then s.offerP f
  else
    match s.fcl.timers[i] with
    | none => (s.offerP f).modFcl fun c => c.setHolding i none (some (Time.plus s.time e.interval))
    | some x => s.modFcl fun c => c.setHolding i (some f) (some x)

/-- The EXTRACT action: a hand-off for reference 1, then for reference 2 (R14). -/
def State.extractFrame (e : FatEntry) (f : Frame) (t : Time) (s : State) : State :=
  if e.extract then (s.handOffRef (frameBytes f) t e.ref1).handOffRef (frameBytes f) t e.ref2 else s

/-- The condition under which the CAPTURE action makes a copy, tested when the arrival is taken (R15). -/
def State.captures (e : FatEntry) (s : State) : Bool :=
  e.capture && decide (s.cport.budget ≠ 0) && !s.cport.c.blocked

/-- The CAPTURE action (R15). -/
def State.captureFrame (copies : Bool) (f : Frame) (s : State) : State := if copies then s.offerC f else s

/-- The actions EXTRACT and CAPTURE of one frame. Section 1.4 gives no order between them. The order shows only when
the copy uses up the budget, and is then a free value (log entry 3). -/
def State.extractAndCapture (e : FatEntry) (f : Frame) (t : Time) (s : State) : State :=
  let copies := s.captures e
  if e.extract && copies && decide (s.cport.budget = 1) then
    let n := s.freeCount
    let s' := { s with freeCount := n + 1 }
    if Config.captureFirst n then (s'.captureFrame copies f).extractFrame e f t
    else (s'.extractFrame e f t).captureFrame copies f
  else (s.extractFrame e f t).captureFrame copies f

/-- The actions of a matched frame (section 1.4). -/
def State.entryActions (i : Fin 48) (f : Frame) (t : Time) (s : State) : State :=
  let e := s.fcl.fat[i]
  (s.extractAndCapture e f t).forwardFrame i e f

/-- FCL takes an arrival (R7, R9 to R12). -/
def State.classify (a : Arrival) (s : State) : State :=
  if s.din.power = .parked then s
  else
    match a.frame.body, a.frame.id with
    | .remote _, _ => s
    | .data _, .standard _ => s.underPolicy s.fcl.standard a.frame
    | .data _, .extended id =>
      match s.fcl.matchEntry id with
      | some i => s.entryActions i a.frame a.time
      | none => s.underPolicy s.fcl.zones[zoneOf id] a.frame

/-- The interval timer of an entry expires at `x` (R18). -/
def State.intervalExpiry (i : Fin 48) (x : Time) (s : State) : State :=
  match s.fcl.held[i] with
  | some f => (s.offerP f).modFcl fun c => c.setHolding i none (some (Time.plus x c.fat[i].interval))
  | none => s.modFcl fun c => c.setHolding i none none

/-- INTERVAL_TIMER_EXPIRY: the expiry of a timer that is due (R18); otherwise nothing (log entry 6). -/
def execIntervalTimerExpiry (entry : Fin 48) (s : State) : Host.Outcome State Fault Refusal :=
  .next (match s.due s.fcl.timers[entry] with
    | some x => s.intervalExpiry entry x
    | none => s)

end Sys2Proof.Machine
end

