-- ==== Sys2Proof/Machine/Gauges.lean ====
section
/-! DEFINITION. GAUGE frames and the gauge timer (R162, R177, R178), and the command GAUGE_TIMER_EXPIRY. -/

namespace Sys2Proof.Machine

/-- The gauge period in force; 0 is off, and so is an ABSENT record (R177). -/
def State.gaugePeriod (s : State) : Nat := (s.wen.record.map (·.gaugePeriod)).getD 0

/-- The gauge timer as a MACHINE load, a wake or a warm restart sets it at `t`: RUNNING from `t` with a nonzero period
while the power state is RUNNING, IDLE otherwise (R177). -/
def State.restartGauge (t : Time) (s : State) : State :=
  s.modCport fun p =>
    { p with gauge :=
        if s.gaugePeriod ≠ 0 ∧ s.din.power = .running then some (Time.plus t s.gaugePeriod) else none }

/-- The state code of a GAUGE frame: CONFIG, CALIBRATE, or RUN with the cycle state (R212). -/
def State.gaugeCode (s : State) : Nat :=
  match s.mgt.mode with
  | .config => 0
  | .calibrate => 1
  | .run => 2 + s.cyt.state.code

/-- The remaining-to-target field: S16 in 10 kg units, absent −32,768 (R212). -/
def State.remainingField (s : State) : Nat := signedBits 16 (s.lac.load.remaining.getD (-32768))

/-- The GAUGE frame built from the state as it stands, kind 1 (R178, R212). -/
def State.gaugeFrame (s : State) : Frame :=
  s.displayFrame 1 [(3, s.gaugeCode),
    (4, flagBits [s.mgt.latched .eventLost, s.mgt.latched .mgmtOverrun, s.sig.anyNotValid, s.lac.load.overload]),
    (2, flagBits [s.mgt.deferred.isSome, s.wen.tareArmed]), (6, coarse 1000 63 s.cyt.lastCycle.toNat),
    (16, s.remainingField), (13, coarse 10 6000 s.liveMass), (14, coarse 100 9600 s.lac.load.total),
    (5, s.lac.load.buckets.length)]

/-- The gauge timer expires at `x`: it restarts on the period in force, and a GAUGE frame is built and offered to G
(R177). -/
def State.gaugeExpiry (x : Time) (s : State) : State :=
  (s.modCport fun p =>
    { p with gauge := if s.gaugePeriod ≠ 0 then some (Time.plus x s.gaugePeriod) else none }).offerG s.gaugeFrame

/-- GAUGE_TIMER_EXPIRY: the expiry of a timer that is due (R177); otherwise nothing (log entry 6). -/
def execGaugeTimerExpiry (s : State) : Host.Outcome State Fault Refusal :=
  .next (match s.due s.cport.gauge with
    | some x => s.gaugeExpiry x
    | none => s)

end Sys2Proof.Machine
end

