-- ==== Sys2Proof/Machine/Inputs.lean ====
section
/-! DEFINITION. DIN: the encoder, the operator lines with their debounce and events, SERVICE, and parking and waking
(R143 to R157), with the commands PHASE_CHANGE, INDEX_PULSE, ENCODER_OFFER_TICK, LINE_LEVEL_CHANGE and
STABILITY_EXPIRY. -/

namespace Sys2Proof.Machine

/-! ### The encoder (R150 to R152) -/

/-- A step of the phases from the held to the new state: +1, −1, or none when both phases changed (R150). -/
def phaseStep (qa qb qa' qb' : Bool) : Option Int :=
  match qa, qb, qa', qb' with
  | false, false, true, false => some 1
  | true, false, true, true => some 1
  | true, true, false, true => some 1
  | false, true, false, false => some 1
  | true, false, false, false => some (-1)
  | true, true, true, false => some (-1)
  | false, true, true, true => some (-1)
  | false, false, false, true => some (-1)
  | false, false, true, true => none
  | true, false, false, true => none
  | true, true, false, false => none
  | false, true, true, false => none
  | false, false, false, false => some 0
  | true, false, true, false => some 0
  | true, true, true, true => some 0
  | false, true, false, true => some 0

/-- The counter saturated to −32,767..32,767, as PHASE_ERROR carries it (R150). -/
def counterDetail (counter : BitVec 32) : Nat := signedBits 16 (clamp (-32767) 32767 counter.toInt)

/-- A phase error (R150): the counter is kept, the new phases are held, the error is counted; a HOMED encoder becomes
UNHOMED, which SIG reflects in an encoder-fed BOOM (R35), and PHASE_ERROR is raised. -/
def State.phaseError (qa qb : Bool) (s : State) : State :=
  let s1 := s.modDin fun d =>
    { d with qa := qa, qb := qb, phaseErrors := satAdd max16 d.phaseErrors 1, homing := .unhomed }
  if s.din.homing = .homed then s1.boomUnhomed.raiseAlert .phaseError (counterDetail s.din.counter) s.time else s1

/-- PHASE_CHANGE (R150): the counter moves by one, or the change is a phase error. Levels equal to the held ones are
no change and do nothing (log entry 6). -/
def execPhaseChange (qa qb : Bool) (s : State) : Host.Outcome State Fault Refusal :=
  .next (match phaseStep s.din.qa s.din.qb qa qb with
    | some d => s.modDin fun x => { x with qa := qa, qb := qb, counter := x.counter + BitVec.ofInt 32 d }
    | none => s.phaseError qa qb)

/-- INDEX_PULSE (R151): while UNHOMED the counter becomes 0 and homing HOMED; while HOMED it is ignored. -/
def execIndexPulse (s : State) : Host.Outcome State Fault Refusal :=
  .next (if s.din.homing = .unhomed then s.modDin fun d => { d with counter := 0, homing := .homed } else s)

/-- ENCODER_OFFER_TICK (R152): at the expiry of the offer tick it restarts 10 ms on, and a BOOM value may be offered
with the expiry as its timestamp; before the expiry nothing (log entry 6). -/
def execEncoderOfferTick (s : State) : Host.Outcome State Fault Refusal :=
  .next (match s.due (some s.din.offerTick) with
    | some x => (s.modDin fun d => { d with offerTick := Time.plus x Config.offerPeriod }).offerBoom x
    | none => s)

/-! ### Raw levels (R146) -/

/-- A line after a change of its raw level at `t`: the stability expiry is set, moved or cancelled (R146). -/
def Line.rawChange (l : Line) (level : Bool) (t : Time) : Line :=
  { l with raw := level, stability := if level = l.debounced then none else some (Time.plus t l.debounce) }

/-- One line changed. -/
def State.modLine (i : Fin 4) (f : Line → Line) (s : State) : State :=
  s.modDin fun d => { d with lines := d.lines.set i (f d.lines[i]) }

/-- LINE_LEVEL_CHANGE (R146). A level equal to the line's raw level is no change and does nothing (log entry 6). -/
def execLineLevelChange (line : Fin 4) (level : Bool) (s : State) : Host.Outcome State Fault Refusal :=
  .next (if level = s.din.lines[line].raw then s else s.modLine line fun l => l.rawChange level s.time)

/-! ### Parking and waking (R154, R155) -/

/-- CPORT at the entry to PARKED: G and P flushed except a carried frame, the gauge timer IDLE (R179). -/
def Cport.park (p : Cport) : Cport := { (p.flush .g).flush .p with gauge := none }

/-- Entry to PARKED at `t` (R154): FCL and SIG set aside their work, WEN ends an OPEN window PARKED or breaks a
calibration run, CYT goes to IDLE, CPORT stops G and P. A deferred change follows the whole event (R199). -/
def State.park (t : Time) (s : State) : State :=
  let s1 := (s.modDin fun d => { d with power := .parked }).modFcl Fcl.clearHolding
  let s2 := (s1.parkSlots.endWindow .parked t).interruptRun .parked t
  let s3 := s2.modWen fun w => { w with latest := none }
  ((s3.modCyt Cyt.toIdle).modCport Cport.park).applyDeferred t

/-- Return to RUNNING at `t` (R155): the key-on NOTICE is offered first, then each block takes up work again. -/
def State.wake (t : Time) (s : State) : State :=
  let s1 := (s.noticeKeyOn t).modDin fun d => { d with power := .running }
  let s2 := s1.wakeSlots t
  let s3 := s2.modWen fun w => { w with prevTheta := none }
  (s3.modCyt fun c => { c with tipArmed := false }).restartGauge t

/-- The key is off: a line assigned KEY has a low debounced level (R153). -/
def Din.keyOff (d : Din) : Bool := d.lines.toList.any fun l => decide (l.function = .key) && !l.debounced

/-- DIN settles the power state from the KEY lines at `t` (R153). -/
def State.settlePower (t : Time) (s : State) : State :=
  match s.din.power, s.din.keyOff with
  | .running, true => s.park t
  | .parked, false => s.wake t
  | .running, false => s
  | .parked, true => s

/-! ### SERVICE (R149) -/

/-- The SERVICE level of the lines: a line assigned SERVICE is high (R149). -/
def Din.serviceLevel (d : Din) : Bool := d.lines.toList.any fun l => decide (l.function = .service) && l.debounced

/-- A load that the machine port owns is freed (R196). -/
def Mgt.freeMachineLoad (m : Mgt) : Mgt :=
  { m with assembly := match m.assembly with
      | some a => if a.owner = .machine then none else some a
      | none => none }

/-- DIN settles the SERVICE level; a change to inactive frees a load owned by the machine port (R149, R196). -/
def State.settleService (s : State) : State :=
  let level := s.din.serviceLevel
  let s' := s.modDin fun d => { d with service := level }
  if s.din.service && !level then s'.modMgt Mgt.freeMachineLoad else s'

/-! ### Debounced edges (R146 to R148) -/

/-- A line's edge setting admits an edge of this direction (R147). -/
def LineEdge.admits (e : LineEdge) (rising : Bool) : Bool :=
  match e with
  | .rise => rising
  | .fall => !rising
  | .both => true

/-- The edge matches the line's function (R147): KEY and SERVICE match every edge. -/
def Line.matches (l : Line) (rising : Bool) : Bool :=
  match l.function with
  | .key | .service => true
  | .none | .tip | .tare | .nextTruck | .cancelLast => l.edge.admits rising

/-- A line after a debounced edge at `t`: level, edge time, and the event flag at a matching edge (R146, R147). -/
def Line.edgeAt (l : Line) (rising : Bool) (t : Time) : Line :=
  { l with debounced := rising, stability := none, flag := l.flag || l.matches rising,
           lastRise := if rising then some t else l.lastRise, lastFall := if rising then l.lastFall else some t }

/-- A matching edge at `t` is delivered to the block of its function (R147, R148). -/
def State.lineEvent (f : LineFunction) (t : Time) (s : State) : State :=
  match f with
  | .none => s
  | .tip => (s.dumpEvent t).applyDeferred t
  | .tare => if s.mgt.mode = .run then s.modWen fun w => { w with tareArmed := true } else s
  | .nextTruck => if s.mgt.mode = .run then s.nextTruck .operator t else s
  | .cancelLast => if s.mgt.mode = .run then s.cancelLast t else s
  | .key => s.settlePower t
  | .service => s.settleService

/-- A line's stability expiry at `t`: the debounced level becomes the raw level, an edge is made and tested (R146,
R147). A line whose levels agree makes no edge (log entry 12). -/
def State.lineEdge (i : Fin 4) (t : Time) (s : State) : State :=
  let l := s.din.lines[i]
  if l.raw = l.debounced then s.modLine i fun x => { x with stability := none }
  else
    let s' := s.modLine i fun x => x.edgeAt l.raw t
    if l.matches l.raw then s'.lineEvent l.function t else s'

/-- STABILITY_EXPIRY (R146): the expiry of a line that is due; otherwise nothing (log entry 6). -/
def execStabilityExpiry (line : Fin 4) (s : State) : Host.Outcome State Fault Refusal :=
  .next (match s.due s.din.lines[line].stability with
    | some x => s.lineEdge line x
    | none => s)

/-! ### A LINES load (R145) -/

/-- A line takes its loaded fields. -/
def Line.setTo (l : Line) (x : LineSetting) : Line :=
  { l with function := x.function, edge := x.edge, debounce := x.debounce }

/-- A line re-read without an edge: the debounced level becomes the raw level and any expiry is cancelled (R145). -/
def Line.reread (l : Line) : Line := { l with debounced := l.raw, stability := none }

/-- The four lines after a run of settings is written from index `first` on. -/
def setLines (v : Vector Line 4) (first : Nat) : List LineSetting → Vector Line 4
  | [] => v
  | x :: xs => setLines (if h : first < 4 then v.set first (v[first].setTo x) else v) (first + 1) xs

/-- All four lines re-read (R145 steps 1 and 2). -/
def rereadLines (v : Vector Line 4) : Vector Line 4 :=
  #v[(v.get 0).reread, (v.get 1).reread, (v.get 2).reread, (v.get 3).reread]

/-- A LINES load takes effect at `t`: entries written, lines re-read, SERVICE and the power state settled anew
(R145). -/
def State.loadLines (first : Nat) (xs : List LineSetting) (t : Time) (s : State) : State :=
  ((s.modDin fun d => { d with lines := rereadLines (setLines d.lines first xs) }).settleService).settlePower t

end Sys2Proof.Machine
end

