-- ==== Sys2Proof/Machine/Pages.lean ====
section
/-! DEFINITION. What the outside reads: the pages of QUERY_STATUS and QUERY_LOAD (R213), the entries of READ_ENTRY
(R185, R214) and the counters of QUERY_TOTALS (R137). Absent items are coded as log entry 7 says. -/

namespace Sys2Proof.Machine

/-- The six counts of a window, U16 each. -/
def Counts.fields (c : Counts) : List Byte :=
  uField 2 c.staleInput ++ uField 2 c.outside ++ uField 2 c.stall ++ uField 2 c.overspeed
    ++ uField 2 c.outOfRange ++ uField 2 c.excess

/-! ### QUERY_STATUS pages (R213) -/

/-- Code of the deferred mode. -/
def Deferred.code : Deferred → Nat
  | .config => Mode.config.code
  | .calibrate _ _ => Mode.calibrate.code

/-- Code of the deferred target curve. -/
def Deferred.targetCode : Deferred → Option Nat
  | .config => none
  | .calibrate c _ => some c.code

/-- R of a deferred calibration, 0 without one. -/
def Deferred.runs : Deferred → Nat
  | .config => 0
  | .calibrate _ r => r

/-- Page 0 GENERAL, 12 bytes. DESIGN CHOICE (log entry 7): R of a deferred change reads 0 when none is stored. -/
def State.generalPage (s : State) : List Byte :=
  eField s.mgt.mode.code ++ eField? (s.mgt.deferred.map Deferred.code)
    ++ eField? (s.mgt.deferred.bind Deferred.targetCode) ++ eField ((s.mgt.deferred.map Deferred.runs).getD 0)
    ++ eField s.din.power.code ++ bField s.wen.record.isSome ++ eField s.wen.curveState.code
    ++ eField s.cyt.state.code ++ bField s.wen.window.isSome ++ eField s.din.homing.code ++ bField s.din.service
    ++ bField (!s.din.keyOff)

/-- An enabled BOOM entry stands aside for the encoder (R23, R39). -/
def State.boomUnused (s : State) : Bool :=
  encoderSelected s.wen.record && s.sig.sxt.toList.any fun e => e.enabled && decide (e.role = .boom)

/-- Page 1 ROLE, 16 bytes. DESIGN CHOICE (log entry 18): UNUSED is set on BOOM's page alone; R39 lists it among
the items of each role, and R213 restricts only ω to BOOM. -/
def State.rolePage (r : Role) (s : State) : List Byte :=
  let x := s.sig.slot r
  let isBoom := decide (r = .boom)
  eField x.source.code ++ eField x.state.code ++ sField? 4 x.value ++ tField? x.stamp
    ++ fField [x.implausible, x.short, x.clamped, isBoom && s.boomUnused]
    ++ sField? 4 (if isBoom then s.sig.omega else none)

/-- Page 2 WINDOW, 52 bytes: while the window is NONE the items of an OPEN window read 0 (R213). DESIGN CHOICE (log
entry 20): stored samples are not reported, as R84 has it; R67 says that they are, in arrival order. -/
def State.windowPage (s : State) : List Byte :=
  let items := match s.wen.window with
    | some w =>
      eField 1 ++ tField w.openTime ++ tField w.timeout ++ sField? 4 (some w.highest)
        ++ uField 1 w.samples.length ++ sField? 4 w.runningMean ++ w.counts.fields
    | none => List.replicate 30 0
  items ++ sField? 4 s.wen.prevTheta ++ sField? 4 (s.wen.latest.map (·.force))
    ++ sField? 4 (s.wen.latest.bind (·.theta)) ++ tField? (s.wen.latest.map (·.time))
    ++ sField? 2 (some s.wen.tare) ++ bField s.wen.tareArmed ++ uField 2 s.liveMass

/-- Page 3 RESULT, 38 bytes. DESIGN CHOICE (log entry 7): without a result its n, t and six counts read 0, not all
ones, and its two times read 0. -/
def State.resultPage (s : State) : List Byte :=
  match s.wen.lastResult with
  | some r =>
    eField 1 ++ eField r.ending.code ++ eField r.cls.code ++ eField? (r.reason.map Reason.code)
      ++ eField r.kind.code ++ sField? 4 r.mean ++ uField? 2 r.mass ++ fField [r.belowZero, r.overRange]
      ++ uField? 4 r.spread ++ uField 1 r.n ++ uField 1 r.t ++ r.counts.fields ++ tField r.openTime
      ++ tField r.endTime
  | none =>
    eField 0 ++ eField? none ++ eField? none ++ eField? none ++ eField? none ++ sField? 4 none ++ uField? 2 none
      ++ fField [] ++ uField? 4 none ++ List.replicate 22 0

/-- Page 4 CYCLE, 36 bytes. DESIGN CHOICE (log entry 7): without a pending bucket its n and six counts read 0, not
all ones, and its end time reads 0. -/
def State.cyclePage (s : State) : List Byte :=
  let c := s.cyt
  eField c.state.code ++ tField? c.start ++ tField c.lastCycle ++ bField c.marker ++ bField c.tipArmed ++
    match c.pending with
    | some p =>
      eField 1 ++ uField? 2 p.mass ++ eField p.cls.code ++ eField? (p.reason.map Reason.code)
        ++ fField [p.belowZero, p.overRange, p.reweighed] ++ eField p.ending.code ++ uField 1 p.n
        ++ p.counts.fields ++ tField p.endTime
    | none =>
      eField 0 ++ uField? 2 none ++ eField? none ++ eField? none ++ fField [] ++ eField? none
        ++ List.replicate 17 0

/-- The calibration items of page 5: 0 while NONE, and the RISING items 0 while ARMED (R213). DESIGN CHOICE (log entry
7): the start sample's θ_eff is absent in RISING. -/
def Wen.calibrationItems (w : Wen) : List Byte :=
  match w.calibration with
  | none => List.replicate 16 0
  | some c =>
    eField 1 ++ eField c.target.code ++ uField 1 c.runs ++ uField 1 c.done ++
      match c.run with
      | .armed start =>
        eField 0 ++ uField 2 c.broken ++ sField? 4 (start.map (·.1)) ++ List.replicate 5 0
      | .rising _ _ highest values =>
        eField 1 ++ uField 2 c.broken ++ sField? 4 none ++ uField 1 values.length ++ sField? 4 (some highest)

/-- Page 5 CURVES, 18 bytes. -/
def State.curvesPage (s : State) : List Byte :=
  eField s.wen.curveState.code ++ fField [s.wen.curveE.isSome, s.wen.curveL.isSome] ++ s.wen.calibrationItems

/-- Page 6 LINES, 17 bytes; the event flag is byte 6, in part 1. -/
def Line.page (l : Line) : List Byte :=
  eField l.function.code ++ eField l.edge.code ++ uField 2 l.debounce ++ bField l.raw ++ bField l.debounced
    ++ bField l.flag ++ tField? l.lastRise ++ tField? l.lastFall

/-- The BOOM value from the counter; absent when UNHOMED or without an ENCODER source in a PRESENT record
(R157). -/
def State.counterBoom (s : State) : Option Int :=
  match s.wen.record with
  | some r =>
    if s.din.homing = .homed ∧ r.boomSource = .encoder then some (r.boomFromCount s.din.counter) else none
  | none => none

/-- Page 7 ENCODER, 11 bytes. The counter is never absent and is sent as it stands (log entry 10). -/
def State.encoderPage (s : State) : List Byte :=
  leInt 4 s.din.counter.toInt ++ eField s.din.homing.code ++ uField 2 s.din.phaseErrors ++ sField? 4 s.counterBoom

/-- The transmitter, retry and silence items of a port (R181). DESIGN CHOICE (log entry 7): without a silence its end
reads 0. -/
def txItems (carried : Option Nat) (x : TxState) : List Byte :=
  eField? carried ++ uField 1 x.failed ++ uField 1 x.drops ++ bField x.silence.isSome ++ tField (x.silence.getD 0)

/-- One channel's items (R181). -/
def ChannelState.items (x : ChannelState) : List Byte :=
  eField x.code ++ bField x.held ++ bField x.blocked ++ uField 1 x.queue.length

/-- Page 8 PORT for CAB, 40 bytes. DESIGN CHOICE (log entry 7): the expiry of an IDLE gauge timer reads 0. -/
def State.cabPage (s : State) : List Byte :=
  let p := s.cport
  txItems (p.carrying.map Channel.code) p.tx ++ p.g.items ++ p.e.items ++ p.p.items ++ p.m.items ++ p.c.items
    ++ bField p.toggleG ++ bField p.toggleE ++ eField? (p.pendingG.map Bool.toNat)
    ++ eField? (p.pendingE.map Bool.toNat) ++ uField 2 p.budget ++ bField p.gap ++ bField p.gauge.isSome
    ++ tField (p.gauge.getD 0)

/-- Page 8 PORT for MACHINE, 9 bytes; a carried machine response has code 5 (R210). -/
def State.machinePage (s : State) : List Byte :=
  txItems (if s.mport.carrying then some 5 else none) s.mport.tx ++ uField 1 s.mport.queue.length

/-- Page 9 MANAGEMENT, 13 bytes. DESIGN CHOICE (log entry 7): while the assembly is FREE its run, its byte totals and
its expected sequence read 0, not all ones. -/
def State.managementPage (s : State) : List Byte :=
  let items := match s.mgt.assembly with
    | some a =>
      eField (if a.failed then 2 else 1) ++ eField (portCode a.owner) ++ eField a.table.code ++ uField 1 a.first
        ++ uField 1 a.count ++ uField 2 a.declared ++ uField 2 a.received.length ++ [a.expected]
    | none => eField 0 ++ eField? none ++ eField? none ++ List.replicate 7 0
  items ++ [s.mgt.node] ++ leBytes 2 s.mgt.mask.toNat

/-- The page a request names, built from the state as it stands; none when the page is unknown or the item lies
outside its range (R185, R213). -/
def State.statusPage (page item : Nat) (s : State) : Option (List Byte) :=
  match page with
  | 0 => some s.generalPage
  | 1 => (roleOf item).map fun r => s.rolePage r
  | 2 => some s.windowPage
  | 3 => some s.resultPage
  | 4 => some s.cyclePage
  | 5 => some s.curvesPage
  | 6 => if h : item < 4 then some (s.din.lines[item]).page else none
  | 7 => some s.encoderPage
  | 8 =>
    match portOf item with
    | some .cab => some s.cabPage
    | some .machine => some s.machinePage
    | none => none
  | 9 => some s.managementPage
  | _ => none

/-- Reporting a LINES part that carries the event flag, part 1, clears that flag (R157, R213). -/
def State.clearReported (page item part : Nat) (s : State) : State :=
  if h : page = 6 ∧ part = 1 ∧ item < 4 then s.modLine ⟨item, h.2.2⟩ fun l => { l with flag := false } else s

/-! ### QUERY_LOAD pages (R213) -/

/-- Page 0: the load header, 25 bytes. `closing` is none for the current load. -/
def Load.header (l : Load) (closing : Option (Time × ClosedBy)) : List Byte :=
  uField 4 l.number ++ uField 1 l.material.val ++ uField 3 l.target ++ uField 2 l.tolerance
    ++ uField 1 l.buckets.length ++ uField 1 l.unweighed ++ uField 3 l.total ++ tField l.openTime
    ++ fField [l.incomplete, l.overload] ++ tField ((closing.map (·.1)).getD 0)
    ++ eField? (closing.map fun c => c.2.code)

/-- Pages 1..16: one bucket record, 17 bytes. -/
def BucketRecord.page (b : BucketRecord) : List Byte :=
  uField 1 b.position ++ uField? 2 b.handed.mass ++ uField? 2 b.fill ++ eField b.handed.cls.code
    ++ eField? (b.handed.reason.map Reason.code)
    ++ fField [b.handed.belowZero, b.handed.overRange, b.handed.reweighed] ++ tField b.handed.digToDump
    ++ tField b.handed.dumpTime ++ uField 1 b.handed.n

/-- The load of an index: 0 the current load, 1..8 the completed summaries, 1 the newest (R141). -/
def Lac.loadAt (a : Lac) (index : Nat) : Option (Load × Option (Time × ClosedBy)) :=
  match index with
  | 0 => some (a.load, none)
  | k + 1 => (a.completed.reverse[k]?).map fun sm => (sm.load, some (sm.closeTime, sm.closedBy))

/-- The page of a load; none past the summaries held or past the load's record count (R141). -/
def Lac.loadPage (a : Lac) (index page : Nat) : Option (List Byte) :=
  match a.loadAt index with
  | none => none
  | some (l, closing) =>
    match page with
    | 0 => some (l.header closing)
    | k + 1 => (l.buckets[k]?).map BucketRecord.page

/-- Bytes of a QUERY_LOAD page (R213). -/
def loadPageLength (page : Nat) : Nat := if page = 0 then 25 else 17

/-! ### QUERY_TOTALS (R137, R213) -/

/-- A material's counter by number: trucks, buckets, unweighed buckets, mass. -/
def MaterialTotals.counter (m : MaterialTotals) : Nat → Option Nat
  | 0 => some m.trucks
  | 1 => some m.buckets
  | 2 => some m.unweighed
  | 3 => some m.mass
  | _ => none

/-- A global counter by number: cycles, returned passes, tare passes, shift start time. -/
def Totals.global (x : Totals) : Nat → Option Nat
  | 0 => some x.cycles
  | 1 => some x.returned
  | 2 => some x.tarePasses
  | 3 => some x.shiftStart.toNat
  | _ => none

/-- The counter a request names; none outside its ranges. -/
def Totals.counter (x : Totals) (selector number : Nat) : Option Nat :=
  if h : selector < 16 then x.materials[selector].counter number
  else if selector = 16 then x.global number
  else none

/-! ### READ_ENTRY (R185, R214) -/

/-- An entry's stored encoding: the outer none when the index lies outside the table, the inner none when the table
holds nothing (R185). -/
def State.entryBytes (t : Table) (index : Nat) (s : State) : Option (Option (List Byte)) :=
  match t with
  | .fat => (s.fcl.fat[index]?).map fun e => some (encodeFat e)
  | .sxt => (s.sig.sxt[index]?).map fun e => some (encodeSxt e)
  | .machine => if index = 0 then some (s.wen.record.map encodeRecord) else none
  | .curveE => if index < 24 then some (s.wen.curveE.map fun c => encodeCurve (c.getD index 0)) else none
  | .curveL => if index < 24 then some (s.wen.curveL.map fun c => encodeCurve (c.getD index 0)) else none
  | .bands => (s.wen.bands[index]?).map fun b => some (encodeBand b)
  | .material => (s.lac.materials[index]?).map fun m => some (encodeMaterial m)
  | .lines => (s.din.lines[index]?).map fun l => some (encodeLine l)

end Sys2Proof.Machine
end

