-- ==== Sys2Proof/Machine/TableLoads.lean ====
section
/-! DEFINITION. Table loads: OPEN_LOAD, LOAD_DATA, CLOSE_LOAD and ABORT_LOAD with the checks and effects of the eight
tables (R13, R20, R25 to R28, R43, R44, R52, R53, R65, R126, R127, R144, R145, R188 to R194). -/

namespace Sys2Proof.Machine

/-! ### The checks and effects of each table (R188) -/

/-- What check 4 of CLOSE_LOAD comes to: the state with the run written and its consequences, or the status that
refuses the load with its index (R192, R193). -/
inductive LoadOutcome
  | written (s : State)
  | badEntry (index : Nat)
  | conflict (index : Nat)
deriving DecidableEq, Repr

/-- A FAT run is written; every holding slot is emptied and every timer IDLE (R20). -/
def State.loadFat (first : Nat) (xs : List FatEntry) (s : State) : State :=
  s.modFcl fun c => { c with fat := writeRun c.fat first xs }.clearHolding

/-- The lowest-indexed enabled entry whose role another enabled entry names too gives the conflict; the index is the
highest among the entries of that conflict (R26; log entry 9). -/
def sxtConflict (v : Vector SxtEntry 16) : Option Nat :=
  let same := fun (i j : Fin 16) => v[i].enabled && v[j].enabled && decide (v[i].role = v[j].role)
  match (List.finRange 16).find? fun i => (List.finRange 16).any fun j => decide (i ≠ j) && same i j with
  | some i => (((List.finRange 16).filter fun j => same i j).getLast?).map (·.val)
  | none => none

/-- An SXT run is written and the slots settled (R27). -/
def State.loadSxt (v : Vector SxtEntry 16) (s : State) : State :=
  (s.modSig fun g => { g with sxt := v }).settleSlots s.time

/-- The grid of a new record is the grid in force (R44). -/
def sameGrid (old : Option MachineRecord) (r : MachineRecord) : Bool :=
  match old with
  | some o => decide (o.theta0 = r.theta0) && decide (o.dTheta = r.dTheta) && decide (o.n = r.n)
  | none => false

/-- A MACHINE load: the record PRESENT, the curves kept or emptied, the frame policies, the slots and the gauge timer
(R42, R44). -/
def State.loadRecord (r : MachineRecord) (s : State) : State :=
  let s1 := s.modWen fun w =>
    { w with record := some r, curveE := if sameGrid w.record r then w.curveE else none,
             curveL := if sameGrid w.record r then w.curveL else none }
  let s2 := s1.modFcl fun c => { c with zones := r.zones, standard := r.standard }
  (s2.settleSlots s.time).restartGauge s.time

/-- A MATERIAL entry passes its checks: unused or 500..5,000 kg/m³, and an in-use material that is used now is not
made unused (R126). -/
def Lac.materialOk (a : Lac) (k rho : Nat) : Bool :=
  (decide (rho = 0) || within 500 5000 rho)
    && !(decide (rho = 0) && a.inUse k && decide (a.materials.toList.getD k 0 ≠ 0))

/-- Check 4 of CLOSE_LOAD and, when it passes, the writing of the run with its consequences (R188, R193). -/
def State.writeTable (table : Table) (first : Nat) (cs : List (List Byte)) (s : State) : LoadOutcome :=
  match table with
  | .fat =>
    match checkRun decodeFat (fun _ e => e.ok) first cs with
    | .error i => .badEntry i
    | .ok xs => .written (s.loadFat first xs)
  | .sxt =>
    match checkRun decodeSxt (fun _ e => e.ok) first cs with
    | .error i => .badEntry i
    | .ok xs =>
      match sxtConflict (writeRun s.sig.sxt first xs) with
      | some i => .conflict i
      | none => .written (s.loadSxt (writeRun s.sig.sxt first xs))
  | .machine =>
    match checkRun decodeRecord (fun _ r => r.ok) first cs with
    | .error i => .badEntry i
    | .ok [] => .badEntry first
    | .ok (r :: _) => .written (s.loadRecord r)
  | .curveE =>
    match checkRun decodeCurve (fun _ v => curveOk v) first cs with
    | .error i => .badEntry i
    | .ok xs => .written (s.writeCurve .empty xs s.time)
  | .curveL =>
    match checkRun decodeCurve (fun _ v => curveOk v) first cs with
    | .error i => .badEntry i
    | .ok xs => .written (s.writeCurve .reference xs s.time)
  | .bands =>
    match checkRun decodeBand (fun _ _ => true) first cs with
    | .error i => .badEntry i
    | .ok xs =>
      match bandsFailure 0 0 false (writeRun s.wen.bands first xs).toList with
      | some i => .badEntry i
      | none => .written (s.modWen fun w => { w with bands := writeRun w.bands first xs })
  | .material =>
    match checkRun decodeMaterial (fun i rho => s.lac.materialOk i rho) first cs with
    | .error i => .badEntry i
    | .ok xs => .written (s.modLac fun a => { a with materials := writeRun a.materials first xs })
  | .lines =>
    match checkRun decodeLine (fun _ l => l.ok) first cs with
    | .error i => .badEntry i
    | .ok xs => .written (s.loadLines first xs s.time)

/-! ### OPEN_LOAD (R190) -/

/-- The load assembly replaced; none is FREE. -/
def State.setAssembly (a : Option Assembly) (s : State) : State := s.modMgt fun m => { m with assembly := a }

/-- The assembly is held by the other port. -/
def State.heldByOther (port : Port) (s : State) : Bool :=
  match s.mgt.assembly with
  | some a => decide (a.owner ≠ port)
  | none => false

/-- A curve load covers the whole curve: first index 0 and N entries (R52). -/
def curveRun (r : MachineRecord) (first count : Nat) : Bool := decide (first = 0) && decide (count = r.n)

/-- Check 5 of OPEN_LOAD, for the two curves (R52): the status and results of its failure. -/
def State.curveOpenFault (table : Table) (first count : Nat) (s : State) : Option (Status × List Byte) :=
  match table with
  | .curveE | .curveL =>
    match s.wen.record with
    | none => some (.notReady, eField NotReady.machine.code)
    | some r => if curveRun r first count then none else some (.badArg, [])
  | .fat | .sxt | .machine | .bands | .material | .lines => none

/-- The run lies in the table and in the buffer: check 4 of OPEN_LOAD (R188, R190). -/
def Table.runFits (t : Table) (first count : Nat) : Bool :=
  decide (1 ≤ count) && decide (first + count ≤ t.entries) && decide (count * t.bytes ≤ Config.assemblyBytes)

/-- The checks of OPEN_LOAD in their order: the table when all pass, or the status and results of the first that
fails (R190). -/
def State.openCheck (port : Port) (code first count : Nat) (s : State) : Except (Status × List Byte) Table :=
  match tableOf code with
  | none => .error (.badArg, [])
  | some t =>
    if s.heldByOther port then .error (.owned, [])
    else if t.writable s.mgt.mode = false then .error (.refusedMode, [])
    else if t.runFits first count = false then .error (.badArg, [])
    else
      match s.curveOpenFault t first count with
      | some e => .error e
      | none => .ok t

/-- The load that OPEN_LOAD starts at `t` (R190). -/
def Assembly.start (port : Port) (table : Table) (first count : Nat) (t : Time) : Assembly :=
  { failed := false, owner := port, table := table, first := first, count := count,
    declared := count * table.bytes, received := [], expected := 0, timeout := Time.plus t Config.assemblyTimeout }

/-- OPEN_LOAD taken from a port (R190): OK with the declared total and the number of LOAD_DATA frames. -/
def State.openLoad (port : Port) (tag table first count : Byte) (s : State) : State :=
  match s.openCheck port table.toNat first.toNat count.toNat with
  | .error e => s.respond port 0x11 tag e.1 e.2
  | .ok t =>
    let declared := count.toNat * t.bytes
    (s.setAssembly (some (Assembly.start port t first.toNat count.toNat s.time))).respond port 0x11 tag .ok
      (leBytes 2 declared ++ leBytes 1 ((declared + 4) / 5))

/-- OPEN_LOAD (R190). -/
def execOpenLoad (port : Port) (tag table first count : Byte) (s : State) : Host.Outcome State Fault Refusal :=
  .next (s.takeRequest port s.time (State.openLoad port tag table first count))

/-! ### LOAD_DATA (R191) -/

/-- The results of a response that reports how far a load got: received bytes and expected sequence number
(R211). -/
def Assembly.report (a : Assembly) : List Byte := leBytes 2 a.received.length ++ [a.expected]

/-- An own OPEN load after a LOAD_DATA frame at `t` (R191): FAILED on a sequence number out of turn or on bytes
beyond the declared total, else the frame accepted. -/
def Assembly.afterData (a : Assembly) (seq : Byte) (payload : List Byte) (t : Time) : Assembly :=
  if seq ≠ a.expected ∨ a.received.length = a.declared then { a with failed := true }
  else
    { a with received := a.received ++ payload.take (a.declared - a.received.length), expected := a.expected + 1,
             timeout := Time.plus t Config.assemblyTimeout }

/-- LOAD_DATA taken from a port (R191). -/
def State.loadData (port : Port) (tag seq : Byte) (payload : List Byte) (s : State) : State :=
  match s.mgt.assembly with
  | none => s.respond port 0x12 tag .noLoad []
  | some a =>
    if a.owner ≠ port then s.respond port 0x12 tag .owned []
    else if a.failed then s.respond port 0x12 tag .loadFailed a.report
    else
      let a' := a.afterData seq payload s.time
      (s.setAssembly (some a')).respond port 0x12 tag (if a'.failed then .loadFailed else .ok) a'.report

/-- LOAD_DATA (R191). -/
def execLoadData (port : Port) (tag seq : Byte) (payload : Vector Byte 5) (s : State) :
    Host.Outcome State Fault Refusal :=
  .next (s.takeRequest port s.time (State.loadData port tag seq payload.toList))

/-! ### CLOSE_LOAD (R192, R193) -/

/-- Check 4 of an own OPEN load that passed the others, and what follows: the buffer is FREE in either case; a success
writes the run and is answered OK after its consequences (R192, R193). -/
def State.finishLoad (port : Port) (tag : Byte) (a : Assembly) (s : State) : State :=
  let s' := s.setAssembly none
  match s'.writeTable a.table a.first (chunks a.table.bytes a.received a.count) with
  | .written w => w.respond port 0x13 tag .ok []
  | .badEntry i => s'.respond port 0x13 tag .badEntry (leBytes 1 i)
  | .conflict i => s'.respond port 0x13 tag .conflict (leBytes 1 i)

/-- CLOSE_LOAD taken from a port (R192). -/
def State.closeLoad (port : Port) (tag crc : Byte) (s : State) : State :=
  match s.mgt.assembly with
  | none => s.respond port 0x13 tag .noLoad []
  | some a =>
    if a.owner ≠ port then s.respond port 0x13 tag .owned []
    else if a.failed then s.respond port 0x13 tag .loadFailed a.report
    else if a.table.writable s.mgt.mode = false then (s.setAssembly none).respond port 0x13 tag .refusedMode []
    else if a.received.length ≠ a.declared then
      (s.setAssembly (some { a with failed := true })).respond port 0x13 tag .loadFailed a.report
    else if crc8 a.received ≠ crc then
      (s.setAssembly (some { a with failed := true })).respond port 0x13 tag .checkFailed []
    else s.finishLoad port tag a

/-- CLOSE_LOAD (R192). -/
def execCloseLoad (port : Port) (tag crc : Byte) (s : State) : Host.Outcome State Fault Refusal :=
  .next (s.takeRequest port s.time (State.closeLoad port tag crc))

/-! ### ABORT_LOAD (R194) -/

/-- ABORT_LOAD taken from a port (R194). -/
def State.abortLoad (port : Port) (tag : Byte) (s : State) : State :=
  match s.mgt.assembly with
  | none => s.respond port 0x14 tag .noLoad []
  | some a =>
    if a.owner ≠ port then s.respond port 0x14 tag .owned []
    else (s.setAssembly none).respond port 0x14 tag .ok []

/-- ABORT_LOAD (R194). -/
def execAbortLoad (port : Port) (tag : Byte) (s : State) : Host.Outcome State Fault Refusal :=
  .next (s.takeRequest port s.time (State.abortLoad port tag))

end Sys2Proof.Machine
end

