-- ==== Sys2Proof/Machine/Management.lean ====
section
/-! DEFINITION. The management commands other than the table loads: queries (R185), SET_MODE (R198), operator and load
commands (R186), port commands (R187), alerts and notices (R203, R204), SET_NODE (R206), RESTART (R207), and the
requests that name no command (R183). Each command is a change of state that ends in its response; its row of the
table takes it through the gate of R6 and R165 (log entry 5). -/

namespace Sys2Proof.Machine

/-! ### Queries (R185) -/

/-- The results of IDENTIFY, by item; none when the item is above 2 (R185, R211). -/
def State.identity (item : Nat) (s : State) : Option (List Byte) :=
  match item with
  | 0 => some (leBytes 2 Config.partCode ++ leBytes 1 Config.revision ++ [s.mgt.node])
  | 1 => some (leBytes 1 Config.fatEntries ++ leBytes 1 Config.sxtEntries ++ leBytes 1 Config.curvePoints
      ++ leBytes 1 Config.bandEntries)
  | 2 => some (leBytes 1 Config.materialEntries ++ leBytes 1 Config.lineEntries ++ leBytes 2 Config.assemblyBytes)
  | _ => none

/-- IDENTIFY carried out (R185). -/
def State.cmdIdentify (port : Port) (tag item : Byte) (s : State) : State :=
  match s.identity item.toNat with
  | some r => s.respond port 0x01 tag .ok r
  | none => s.respond port 0x01 tag .badArg []

/-- IDENTIFY (R185). -/
def execIdentify (port : Port) (tag item : Byte) (s : State) : Host.Outcome State Fault Refusal :=
  .next (s.takeRequest port s.time (State.cmdIdentify port tag item))

/-- QUERY_STATUS carried out (R185, R213): the piece of the page as it stands; reporting a line's event flag clears
it (R157). -/
def State.cmdQueryStatus (port : Port) (tag page item part : Byte) (s : State) : State :=
  match s.statusPage page.toNat item.toNat with
  | some record =>
    if hasPart record.length part.toNat then
      (s.clearReported page.toNat item.toNat part.toNat).respond port 0x02 tag .ok (piece record part.toNat)
    else s.respond port 0x02 tag .badArg []
  | none => s.respond port 0x02 tag .badArg []

/-- QUERY_STATUS (R185, R213). -/
def execQueryStatus (port : Port) (tag page item part : Byte) (s : State) : Host.Outcome State Fault Refusal :=
  .next (s.takeRequest port s.time (State.cmdQueryStatus port tag page item part))

/-- A chunk's first byte lies within the entry (R185). -/
def Table.hasChunk (t : Table) (chunk : Nat) : Bool := decide (chunk * 5 < t.bytes)

/-- READ_ENTRY carried out (R185): BAD_ARG is tested before EMPTY (log entry 8). -/
def State.cmdReadEntry (port : Port) (tag table index chunk : Byte) (s : State) : State :=
  match tableOf table.toNat with
  | none => s.respond port 0x03 tag .badArg []
  | some t =>
    match t.hasChunk chunk.toNat, s.entryBytes t index.toNat with
    | true, some (some bytes) => s.respond port 0x03 tag .ok (piece bytes chunk.toNat)
    | true, some none => s.respond port 0x03 tag .empty []
    | true, none => s.respond port 0x03 tag .badArg []
    | false, _ => s.respond port 0x03 tag .badArg []

/-- READ_ENTRY (R185). -/
def execReadEntry (port : Port) (tag table index chunk : Byte) (s : State) : Host.Outcome State Fault Refusal :=
  .next (s.takeRequest port s.time (State.cmdReadEntry port tag table index chunk))

/-- The arguments of QUERY_LOAD lie in their ranges: index 0..8, page 0..16, and a part of that page (R211,
R213). -/
def loadArgsOk (index page part : Nat) : Bool :=
  decide (index ≤ 8) && decide (page ≤ 16) && hasPart (loadPageLength page) part

/-- QUERY_LOAD carried out (R141, R213): BAD_ARG is tested before EMPTY (log entry 8). -/
def State.cmdQueryLoad (port : Port) (tag index page part : Byte) (s : State) : State :=
  if loadArgsOk index.toNat page.toNat part.toNat then
    match s.lac.loadPage index.toNat page.toNat with
    | some record => s.respond port 0x04 tag .ok (piece record part.toNat)
    | none => s.respond port 0x04 tag .empty []
  else s.respond port 0x04 tag .badArg []

/-- QUERY_LOAD (R141, R213). -/
def execQueryLoad (port : Port) (tag index page part : Byte) (s : State) : Host.Outcome State Fault Refusal :=
  .next (s.takeRequest port s.time (State.cmdQueryLoad port tag index page part))

/-- QUERY_TOTALS carried out (R137, R211). -/
def State.cmdQueryTotals (port : Port) (tag selector counter : Byte) (s : State) : State :=
  match s.lac.totals.counter selector.toNat counter.toNat with
  | some v => s.respond port 0x05 tag .ok (leBytes 4 v)
  | none => s.respond port 0x05 tag .badArg []

/-- QUERY_TOTALS (R137). -/
def execQueryTotals (port : Port) (tag selector counter : Byte) (s : State) : Host.Outcome State Fault Refusal :=
  .next (s.takeRequest port s.time (State.cmdQueryTotals port tag selector counter))

/-- READ_ALERTS carried out (R204). -/
def State.cmdReadAlerts (port : Port) (tag : Byte) (s : State) : State :=
  s.respond port 0x06 tag .ok (leBytes 2 s.mgt.alerts.toNat ++ leBytes 2 s.mgt.mask.toNat)

/-- READ_ALERTS (R204). -/
def execReadAlerts (port : Port) (tag : Byte) (s : State) : Host.Outcome State Fault Refusal :=
  .next (s.takeRequest port s.time (State.cmdReadAlerts port tag))

/-! ### SET_MODE (R198) -/

/-- The change that a SET_MODE asks for; none when the mode, or for CALIBRATE the target or R, is out of range
(R85, R198). -/
def modeTargetOf (mode target runs : Nat) : Option ModeTarget :=
  match modeOf mode with
  | some .config => some .config
  | some .run => some .run
  | some .calibrate =>
    match curveOf target with
    | some c => if 1 ≤ runs ∧ runs ≤ 4 then some (.calibrate c runs) else none
    | none => none
  | none => none

/-- What a valid SET_MODE comes to: answered with a status and results, from a state. -/
structure ModeAnswer where
  state : State
  status : Status
  results : List Byte
deriving DecidableEq, Repr

/-- The deferred change that MGT holds, replaced or removed (R199). -/
def State.setDeferred (d : Option Deferred) (s : State) : State := s.modMgt fun m => { m with deferred := d }

/-- A change made at once on a command, unless one of its conditions fails (R198). -/
def State.changeUnless (block : Option NotReady) (m : ModeTarget) (s : State) : ModeAnswer :=
  match block with
  | none => ⟨s.changeMode m .command s.time, .ok, []⟩
  | some d => ⟨s, .notReady, eField d.code⟩

/-- A valid SET_MODE by the current mode: the table of R198. -/
def State.requestMode (m : ModeTarget) (s : State) : ModeAnswer :=
  if s.mgt.mode = .run ∧ s.wen.window.isSome = true then
    match m with
    | .run => ⟨s.setDeferred none, .ok, []⟩
    | .config => ⟨s.setDeferred (some .config), .deferred, []⟩
    | .calibrate c r => ⟨s.setDeferred (some (.calibrate c r)), .deferred, []⟩
  else
    match m with
    | .config => if s.mgt.mode = .config then ⟨s, .ok, []⟩ else s.changeUnless none m
    | .run => if s.mgt.mode = .run then ⟨s, .ok, []⟩ else s.changeUnless s.runBlock m
    | .calibrate _ _ => s.changeUnless s.calibrateBlock m

/-- SET_MODE carried out (R198). -/
def State.cmdSetMode (port : Port) (tag mode target runs : Byte) (s : State) : State :=
  match modeTargetOf mode.toNat target.toNat runs.toNat with
  | none => s.respond port 0x10 tag .badArg []
  | some m => (s.requestMode m).state.respond port 0x10 tag (s.requestMode m).status (s.requestMode m).results

/-- SET_MODE (R198). -/
def execSetMode (port : Port) (tag mode target runs : Byte) (s : State) : Host.Outcome State Fault Refusal :=
  .next (s.takeRequest port s.time (State.cmdSetMode port tag mode target runs))

/-! ### Operator and load commands (R186) -/

/-- TARE carried out: armed in RUN, refused in any other mode (R81, R186). -/
def State.cmdTare (port : Port) (tag : Byte) (s : State) : State :=
  if s.mgt.mode = .run then (s.modWen fun w => { w with tareArmed := true }).respond port 0x20 tag .ok []
  else s.respond port 0x20 tag .refusedMode []

/-- TARE (R81, R186). -/
def execTare (port : Port) (tag : Byte) (s : State) : Host.Outcome State Fault Refusal :=
  .next (s.takeRequest port s.time (State.cmdTare port tag))

/-- CANCEL_LAST carried out: OK with the removed record's mass or absent and the new total, or EMPTY (R133). -/
def State.cmdCancelLast (port : Port) (tag : Byte) (s : State) : State :=
  match s.lac.load.buckets.getLast? with
  | none => s.respond port 0x21 tag .empty []
  | some b =>
    let s' := s.cancelLast s.time
    s'.respond port 0x21 tag .ok (uField? 2 b.handed.mass ++ leBytes 3 s'.lac.load.total)

/-- CANCEL_LAST (R133, R186). -/
def execCancelLast (port : Port) (tag : Byte) (s : State) : Host.Outcome State Fault Refusal :=
  .next (s.takeRequest port s.time (State.cmdCancelLast port tag))

/-- NEXT_TRUCK carried out: OK with the closed load's number, low 16 bits, and total, or EMPTY (R135, R211). -/
def State.cmdNextTruck (port : Port) (tag : Byte) (s : State) : State :=
  if s.lac.load.buckets = [] then s.respond port 0x22 tag .empty []
  else
    (s.nextTruck .management s.time).respond port 0x22 tag .ok
      (leBytes 2 s.lac.load.number ++ leBytes 3 s.lac.load.total)

/-- NEXT_TRUCK (R135, R186). -/
def execNextTruck (port : Port) (tag : Byte) (s : State) : Host.Outcome State Fault Refusal :=
  .next (s.takeRequest port s.time (State.cmdNextTruck port tag))

/-- SHIFT_CLOSE carried out: every counter 0 and the shift start time set (R138). -/
def State.cmdShiftClose (port : Port) (tag : Byte) (s : State) : State :=
  (s.modLac fun a => { a with totals := Totals.zero s.time }).respond port 0x23 tag .ok []

/-- SHIFT_CLOSE (R138, R186). -/
def execShiftClose (port : Port) (tag : Byte) (s : State) : Host.Outcome State Fault Refusal :=
  .next (s.takeRequest port s.time (State.cmdShiftClose port tag))

/-- The target and tolerance, in the settings and in the current load (R132). -/
def Lac.withTarget (a : Lac) (target tolerance : Nat) : Lac :=
  { a with target := target, tolerance := tolerance,
           load := { a.load with target := target, tolerance := tolerance } }

/-- Target 0..200,000 kg and tolerance 0..20,000 kg (R132). -/
def targetOk (target tolerance : Nat) : Bool := decide (target ≤ 200000) && decide (tolerance ≤ 20000)

/-- SET_TARGET carried out (R132). -/
def State.cmdSetTarget (port : Port) (tag : Byte) (target : BitVec 24) (tolerance : BitVec 16) (s : State) :
    State :=
  if targetOk target.toNat tolerance.toNat then
    ((s.modLac fun a => a.withTarget target.toNat tolerance.toNat).evalOverload s.time).respond port 0x24 tag .ok []
  else s.respond port 0x24 tag .badArg []

/-- SET_TARGET (R132, R186). -/
def execSetTarget (port : Port) (tag : Byte) (target : BitVec 24) (tolerance : BitVec 16) (s : State) :
    Host.Outcome State Fault Refusal :=
  .next (s.takeRequest port s.time (State.cmdSetTarget port tag target tolerance))

/-- The material an index names; none when it is above 15 or unused (R136). -/
def Lac.usedMaterial (a : Lac) (index : Nat) : Option (Fin 16) :=
  if h : index < 16 then (if a.materials[index] ≠ 0 then some ⟨index, h⟩ else none) else none

/-- A material chosen: at once for an empty load, stored for the next one otherwise (R136). -/
def Lac.chooseMaterial (a : Lac) (k : Fin 16) : Lac :=
  if a.load.buckets = [] then { a with load := { a.load with material := k }, nextMaterial := none }
  else { a with nextMaterial := some k }

/-- Code of the SET_MATERIAL case: AT_ONCE, STORED (R136, R210). -/
def Lac.materialCase (a : Lac) : Nat := if a.load.buckets = [] then 0 else 1

/-- SET_MATERIAL carried out (R136). -/
def State.cmdSetMaterial (port : Port) (tag index : Byte) (s : State) : State :=
  match s.lac.usedMaterial index.toNat with
  | some k => (s.modLac fun a => a.chooseMaterial k).respond port 0x25 tag .ok (eField s.lac.materialCase)
  | none => s.respond port 0x25 tag .badArg []

/-- SET_MATERIAL (R136, R186). -/
def execSetMaterial (port : Port) (tag index : Byte) (s : State) : Host.Outcome State Fault Refusal :=
  .next (s.takeRequest port s.time (State.cmdSetMaterial port tag index))

/-! ### CHANNEL (R160, R161, R174, R187) -/

/-- A CHANNEL action that every channel takes: carried out on the channel a code names and answered OK after it, or
BAD_ARG (R165, R187). -/
def State.channelAction (act : Channel → Cport → Cport) (port : Port) (tag channel : Byte) (s : State) : State :=
  match channelOf channel.toNat with
  | some ch => (s.modCport (act ch)).respond port 0x30 tag .ok []
  | none => s.respond port 0x30 tag .badArg []

/-- HOLD: the hold mark set (R160). -/
def Cport.holdChan (ch : Channel) (p : Cport) : Cport := p.setChan ch { p.chan ch with held := true }

/-- RELEASE: the hold mark cleared (R160). -/
def Cport.releaseChan (ch : Channel) (p : Cport) : Cport := p.setChan ch { p.chan ch with held := false }

/-- BLOCK: the block mark set; a channel whose mark was clear is flushed (R160, R161). -/
def Cport.blockChan (ch : Channel) (p : Cport) : Cport :=
  let p' := if (p.chan ch).blocked then p else p.flush ch
  p'.setChan ch { p'.chan ch with blocked := true }

/-- UNBLOCK: the block mark cleared (R160). -/
def Cport.unblockChan (ch : Channel) (p : Cport) : Cport := p.setChan ch { p.chan ch with blocked := false }

/-- The channel has a toggle: G or E (R173). -/
def Channel.hasToggle : Channel → Bool
  | .g | .e => true
  | .p | .m | .c => false

/-- The forced toggle of G or E: at once, or pending while the transmitter carries a frame of that channel
(R174). -/
def Cport.forceToggle (p : Cport) (ch : Channel) (v : Bool) : Cport :=
  if p.carrying = some ch then p.setPending ch (some v) else p.setToggle ch v

/-- A toggle action: on G or E, else BAD_ARG (R174, R187). -/
def State.toggleAction (v : Bool) (port : Port) (tag channel : Byte) (s : State) : State :=
  match channelOf channel.toNat with
  | some ch =>
    if ch.hasToggle then (s.modCport fun p => p.forceToggle ch v).respond port 0x30 tag .ok []
    else s.respond port 0x30 tag .badArg []
  | none => s.respond port 0x30 tag .badArg []

/-- CHANNEL HOLD (R160, R187). -/
def execHold (port : Port) (tag channel : Byte) (s : State) : Host.Outcome State Fault Refusal :=
  .next (s.takeRequest port s.time (State.channelAction Cport.holdChan port tag channel))

/-- CHANNEL RELEASE (R160, R187). -/
def execRelease (port : Port) (tag channel : Byte) (s : State) : Host.Outcome State Fault Refusal :=
  .next (s.takeRequest port s.time (State.channelAction Cport.releaseChan port tag channel))

/-- CHANNEL BLOCK (R160, R161, R187). -/
def execBlock (port : Port) (tag channel : Byte) (s : State) : Host.Outcome State Fault Refusal :=
  .next (s.takeRequest port s.time (State.channelAction Cport.blockChan port tag channel))

/-- CHANNEL UNBLOCK (R160, R187). -/
def execUnblock (port : Port) (tag channel : Byte) (s : State) : Host.Outcome State Fault Refusal :=
  .next (s.takeRequest port s.time (State.channelAction Cport.unblockChan port tag channel))

/-- CHANNEL TOGGLE_SET (R174, R187). -/
def execToggleSet (port : Port) (tag channel : Byte) (s : State) : Host.Outcome State Fault Refusal :=
  .next (s.takeRequest port s.time (State.toggleAction true port tag channel))

/-- CHANNEL TOGGLE_CLEAR (R174, R187). -/
def execToggleClear (port : Port) (tag channel : Byte) (s : State) : Host.Outcome State Fault Refusal :=
  .next (s.takeRequest port s.time (State.toggleAction false port tag channel))

/-! ### SET_CAPTURE (R175), SET_NOTICES (R203), alerts (R204), SET_NODE (R206) -/

/-- SET_CAPTURE carried out (R175). -/
def State.cmdSetCapture (port : Port) (tag : Byte) (budget : BitVec 16) (s : State) : State :=
  (s.modCport fun p => { p with budget := budget.toNat, gap := false }).respond port 0x31 tag .ok []

/-- SET_CAPTURE (R175, R187). -/
def execSetCapture (port : Port) (tag : Byte) (budget : BitVec 16) (s : State) : Host.Outcome State Fault Refusal :=
  .next (s.takeRequest port s.time (State.cmdSetCapture port tag budget))

/-- SET_NOTICES carried out (R203). -/
def State.cmdSetNotices (port : Port) (tag : Byte) (mask : BitVec 16) (s : State) : State :=
  (s.modMgt fun m => { m with mask := mask }).respond port 0x32 tag .ok []

/-- SET_NOTICES (R203). -/
def execSetNotices (port : Port) (tag : Byte) (mask : BitVec 16) (s : State) : Host.Outcome State Fault Refusal :=
  .next (s.takeRequest port s.time (State.cmdSetNotices port tag mask))

/-- CLEAR_ALERTS carried out: OK with the flags after the clearing, or BAD_ARG on a mask of 0 (R204). -/
def State.cmdClearAlerts (port : Port) (tag : Byte) (mask : BitVec 16) (s : State) : State :=
  if mask = 0 then s.respond port 0x33 tag .badArg []
  else
    let s' := s.modMgt fun m => { m with alerts := m.alerts &&& ~~~mask }
    s'.respond port 0x33 tag .ok (leBytes 2 s'.mgt.alerts.toNat)

/-- CLEAR_ALERTS (R204). -/
def execClearAlerts (port : Port) (tag : Byte) (mask : BitVec 16) (s : State) : Host.Outcome State Fault Refusal :=
  .next (s.takeRequest port s.time (State.cmdClearAlerts port tag mask))

/-- SET_NODE carried out: the response is built with the old node, and the new one applies from the next frame
(R206). -/
def State.cmdSetNode (port : Port) (tag node : Byte) (s : State) : State :=
  (s.respond port 0x34 tag .ok []).modMgt fun m => { m with node := node }

/-- SET_NODE (R206). -/
def execSetNode (port : Port) (tag node : Byte) (s : State) : Host.Outcome State Fault Refusal :=
  .next (s.takeRequest port s.time (State.cmdSetNode port tag node))

/-! ### RESTART (R207) -/

/-- WEN's warm-restart values (R59, R60, R86): the record, the curves, the bands, the tare and the last result are
kept. -/
def Wen.warm (w : Wen) : Wen :=
  { w with window := none, prevTheta := none, tareArmed := false, latest := none, calibration := none }

/-- MGT's warm-restart values (R182): the alert flags, the mask and the node are kept. -/
def Mgt.warm (m : Mgt) : Mgt := { m with mode := .config, deferred := none, assembly := none }

/-- Steps 1 and 2 of R207: the deferred change is removed, an OPEN window ends MODE, and the calibration goes. -/
def State.endWork (s : State) : State :=
  ((s.setDeferred none).endWindow .mode s.time).modWen fun w => { w with calibration := none }

/-- Step 3 of R207: each block takes its warm-restart values; LAC and DIN keep theirs (R140, R143). -/
def State.warmValues (s : State) : State :=
  let s1 := (s.modFcl Fcl.clearHolding).settleSlots s.time
  let s2 := (s1.modWen Wen.warm).modCyt Cyt.toIdle
  let s3 := (s2.modCport fun _ => Cport.cold).modMport fun _ => Mport.cold
  (s3.restartGauge s.time).modMgt Mgt.warm

/-- RESTART carried out: the five steps of R207. -/
def State.cmdRestart (port : Port) (tag : Byte) (s : State) : State :=
  let s3 := s.endWork.warmValues
  let s4 := if s.mgt.mode = .config then s3 else s3.noticeMode .config s.mgt.mode none .restart s.time
  s4.respond port 0x35 tag .ok []

/-- RESTART (R207). -/
def execRestart (port : Port) (tag : Byte) (s : State) : Host.Outcome State Fault Refusal :=
  .next (s.takeRequest port s.time (State.cmdRestart port tag))

/-! ### Requests that name no command (R183) -/

/-- A request whose command byte names no command is answered UNKNOWN (R183). -/
def State.cmdUnknown (port : Port) (code tag : Byte) (s : State) : State := s.respond port code tag .unknown []

/-- UNKNOWN_COMMAND (R183). -/
def execUnknownCommand (port : Port) (code tag : Byte) (s : State) : Host.Outcome State Fault Refusal :=
  .next (s.takeRequest port s.time (State.cmdUnknown port code tag))

/-- A request of fewer than 8 data bytes is answered BAD_ARG with bytes 0 and 1 as received, 0 for a missing one
(R183). -/
def State.cmdShort (port : Port) (bytes : List Byte) (s : State) : State :=
  s.respond port (byteAt bytes 0) (byteAt bytes 1) .badArg []

/-- SHORT_REQUEST (R183). -/
def execShortRequest (port : Port) (bytes : List Byte) (s : State) : Host.Outcome State Fault Refusal :=
  .next (s.takeRequest port s.time (State.cmdShort port bytes))

end Sys2Proof.Machine
end

