-- ==== Sys2Proof/Machine/Arrivals.lean ====
section
/-! DEFINITION. Arrivals: MACHINE_ARRIVAL, which MPORT routes to MGT or to FCL (R2 to R7), and CAB_ARRIVAL, which CPORT
takes as a management request or discards (R167); and the carrying out of a request from its bytes (R183, R211). -/

namespace Sys2Proof.Machine

/-- The management command that a row names, carried out by MGT (R183 to R207). The rows that are no request change
nothing here; a decoded request is never one of them. -/
def State.carryOut (i : Instr) : State → State :=
  match i with
  | .identify p tag item => State.cmdIdentify p tag item
  | .queryStatus p tag page item part => State.cmdQueryStatus p tag page item part
  | .readEntry p tag table index chunk => State.cmdReadEntry p tag table index chunk
  | .queryLoad p tag index page part => State.cmdQueryLoad p tag index page part
  | .queryTotals p tag selector counter => State.cmdQueryTotals p tag selector counter
  | .readAlerts p tag => State.cmdReadAlerts p tag
  | .setMode p tag mode target runs => State.cmdSetMode p tag mode target runs
  | .openLoad p tag table first count => State.openLoad p tag table first count
  | .loadData p tag seq payload => State.loadData p tag seq payload.toList
  | .closeLoad p tag crc => State.closeLoad p tag crc
  | .abortLoad p tag => State.abortLoad p tag
  | .tare p tag => State.cmdTare p tag
  | .cancelLast p tag => State.cmdCancelLast p tag
  | .nextTruck p tag => State.cmdNextTruck p tag
  | .shiftClose p tag => State.cmdShiftClose p tag
  | .setTarget p tag target tolerance => State.cmdSetTarget p tag target tolerance
  | .setMaterial p tag index => State.cmdSetMaterial p tag index
  | .hold p tag channel => State.channelAction Cport.holdChan p tag channel
  | .release p tag channel => State.channelAction Cport.releaseChan p tag channel
  | .block p tag channel => State.channelAction Cport.blockChan p tag channel
  | .unblock p tag channel => State.channelAction Cport.unblockChan p tag channel
  | .toggleSet p tag channel => State.toggleAction true p tag channel
  | .toggleClear p tag channel => State.toggleAction false p tag channel
  | .setCapture p tag budget => State.cmdSetCapture p tag budget
  | .setNotices p tag mask => State.cmdSetNotices p tag mask
  | .clearAlerts p tag mask => State.cmdClearAlerts p tag mask
  | .setNode p tag node => State.cmdSetNode p tag node
  | .restart p tag => State.cmdRestart p tag
  | .unknownCommand p code tag => State.cmdUnknown p code tag
  | .shortRequest p bytes => State.cmdShort p bytes
  | .coldReset _ | .timebaseTick | .machineArrival _ | .intervalTimerExpiry _ | .freshnessExpiry _ | .lossExpiry _
  | .windowTimeout | .encoderOfferTick | .phaseChange _ _ | .indexPulse | .lineLevelChange _ _
  | .stabilityExpiry _ | .cabArrival _ | .arbiterTake | .machineTxTake | .attemptSent _ | .attemptLost _
  | .attemptFailed _ | .silenceEnd _ | .gaugeTimerExpiry | .loadTimeout => id

/-- A request's bytes carried out (R183, R211): the row they name, or BAD_ARG for a CHANNEL request whose action is
unknown (R187). -/
def State.carryOutBytes (port : Port) (bytes : List Byte) (s : State) : State :=
  match decodeRequest port bytes with
  | some i => s.carryOut i
  | none => s.respond port 0x30 (byteAt bytes 1) .badArg []

/-- The management request identifier of a node (R3, R167, section 11.1). -/
def requestId (node : Byte) : BitVec 29 := Config.requestBase + node.setWidth 29

/-- The data bytes of an extended data frame with this part's management request identifier (R3, R167). -/
def State.requestOf (f : Frame) (s : State) : Option (List Byte) :=
  match f.id, f.body with
  | .extended id, .data bytes => if id = requestId s.mgt.node then some bytes else none
  | .extended _, .remote _ => none
  | .standard _, .data _ => none
  | .standard _, .remote _ => none

/-- MPORT takes an arrival (R3, R6, R7): a request while SERVICE is active goes to MGT through the gate of the machine
response queue, everything else to FCL. -/
def State.takeArrival (a : Arrival) (s : State) : State :=
  match s.din.service, s.requestOf a.frame with
  | true, some bytes => s.takeRequest .machine a.time (State.carryOutBytes .machine bytes)
  | true, none => s.classify a
  | false, _ => s.classify a

/-- MACHINE_ARRIVAL (R2 to R7). -/
def execMachineArrival (arrival : Arrival) (s : State) : Host.Outcome State Fault Refusal :=
  .next (s.takeArrival arrival)

/-- CAB_ARRIVAL (R167): a request goes to MGT through the gate of channel M (R165), everything else is discarded. -/
def execCabArrival (frame : Frame) (s : State) : Host.Outcome State Fault Refusal :=
  .next (match s.requestOf frame with
    | some bytes => s.takeRequest .cab s.time (State.carryOutBytes .cab bytes)
    | none => s)

end Sys2Proof.Machine
end

