-- ==== Sys2Proof/Machine/Resets.lean ====
section
/-! DEFINITION. The cold reset (R182, R180, R205 and the rule of each block). -/

namespace Sys2Proof.Machine

/-- COLD_RESET: every block at its cold values, with the straps, the encoder phases and the line levels read at the
reset. The waiting commands are the outside's and stay; so does the count of free values, which no reset of the part
repeats (log entry 3). -/
def execColdReset (pins : ResetPins) (s : State) : Host.Outcome State Fault Refusal :=
  .next { State.cold pins with freeCount := s.freeCount, pending := s.pending }

end Sys2Proof.Machine
end

