-- ==== Sys2Proof/Machine/Timers.lean ====
section
/-! DEFINITION. The timebase and the expiries of SIG, WEN and MGT: TIMEBASE_TICK, FRESHNESS_EXPIRY, LOSS_EXPIRY,
WINDOW_TIMEOUT, LOAD_TIMEOUT (R1, R36, R69, R71, R96, R195). An expiry that is not due does nothing (log entry 6). -/

namespace Sys2Proof.Machine

/-- TIMEBASE_TICK (R1): one millisecond, with the wrap. -/
def execTimebaseTick (s : State) : Host.Outcome State Fault Refusal := .next { s with time := s.time + 1 }

/-- FRESHNESS_EXPIRY (R36): a VALID slot whose freshness expiry is reached becomes STALE. -/
def execFreshnessExpiry (role : Role) (s : State) : Host.Outcome State Fault Refusal :=
  .next (match s.due (s.sig.slot role).fresh with
    | some _ => if (s.sig.slot role).state = .valid then s.modSlot role Slot.goStale else s
    | none => s)

/-- HEAD and BOOM are the roles whose loss WEN acts on (R71, R96). -/
def lossEndsWork : Role → Bool
  | .head | .boom => true
  | .rod | .pitch | .tilt => false

/-- The loss of a slot at its expiry `x`: LOST, SIGNAL_LOST with the role, and for HEAD and BOOM the end of an OPEN
window and of a calibration run (R36, R71, R96). -/
def State.slotLost (role : Role) (x : Time) (s : State) : State :=
  let s1 := (s.modSlot role Slot.goLost).raiseAlert .signalLost (roleCode role) x
  if lossEndsWork role then ((s1.endWindow .lost x).interruptRun .signal x).applyDeferred x else s1

/-- LOSS_EXPIRY (R36): a slot whose loss expiry is reached becomes LOST. -/
def execLossExpiry (role : Role) (s : State) : Host.Outcome State Fault Refusal :=
  .next (match s.due (s.sig.slot role).loss with
    | some x => s.slotLost role x
    | none => s)

/-- WINDOW_TIMEOUT (R69): an OPEN window whose timeout expiry is reached ends TIMEOUT, with the expiry as end
time. -/
def execWindowTimeout (s : State) : Host.Outcome State Fault Refusal :=
  .next (match s.due (s.wen.window.map (·.timeout)) with
    | some x => (s.endWindow .timeout x).applyDeferred x
    | none => s)

/-- LOAD_TIMEOUT (R195): an OPEN or FAILED load whose timeout expiry is reached is freed. -/
def execLoadTimeout (s : State) : Host.Outcome State Fault Refusal :=
  .next (match s.due (s.mgt.assembly.map (·.timeout)) with
    | some _ => s.modMgt fun m => { m with assembly := none }
    | none => s)

end Sys2Proof.Machine
end

