-- ==== Sys2Proof/Machine/Transmit.lean ====
section
/-! DEFINITION. The transmitters: ARBITER_TAKE, MACHINE_TX_TAKE, the three attempt outcomes and SILENCE_END (R5, R168
to R174). -/

namespace Sys2Proof.Machine

/-! ### Taking a frame (R168, R5) -/

/-- The arbiter's choice: the first OPEN and non-empty channel in the order M, E, G, C, P (R168). -/
def Cport.eligible (p : Cport) : Option Channel :=
  [Channel.m, .e, .g, .c, .p].find? fun ch => (p.chan ch).isOpen && !(p.chan ch).queue.isEmpty

/-- The toggle of a frame's channel written into it at the take (R173). -/
def stampFrame (toggle : Option Bool) (f : Frame) : Frame :=
  match toggle with
  | some v => { f with body := .data (stampToggle v (frameBytes f)) }
  | none => f

/-- The first frame of a queue changed. -/
def mapHead (f : Frame → Frame) : List Frame → List Frame
  | [] => []
  | x :: xs => f x :: xs

/-- The transmitter takes the oldest frame of a channel; a G or E frame is stamped with the channel's toggle (R168,
R173). -/
def Cport.takeFrom (p : Cport) (ch : Channel) : Cport :=
  let x := p.chan ch
  { p.setChan ch { x with queue := mapHead (stampFrame (p.toggle ch)) x.queue } with carrying := some ch }

/-- A transmitter that is FREE on a port that is not SILENT. -/
def Cport.ready (p : Cport) : Bool := p.carrying.isNone && p.tx.silence.isNone

/-- ARBITER_TAKE (R168): when the transmitter is FREE, the port is not SILENT and a channel is eligible; otherwise
nothing (log entry 6). -/
def execArbiterTake (s : State) : Host.Outcome State Fault Refusal :=
  .next (match s.cport.ready, s.cport.eligible with
    | true, some ch => s.modCport fun p => p.takeFrom ch
    | _, _ => s)

/-- MACHINE_TX_TAKE (R5): the oldest response, when the machine transmitter is FREE and the port not SILENT;
otherwise nothing (log entry 6). -/
def execMachineTxTake (s : State) : Host.Outcome State Fault Refusal :=
  .next (if s.mport.carrying = false ∧ s.mport.tx.silence = none ∧ s.mport.queue ≠ [] then
      s.modMport fun m => { m with carrying := true }
    else s)

/-! ### The end of a transmission -/

/-- A pending toggle takes effect (R174). -/
def Cport.settleToggle (p : Cport) (ch : Channel) : Cport :=
  match p.pendingToggle ch with
  | some v => (p.setToggle ch v).setPending ch none
  | none => p

/-- The toggle after a SENT frame: the inverse of the value the frame carried (R173). -/
def Cport.flipToggle (p : Cport) (ch : Channel) : Cport :=
  match (p.chan ch).queue with
  | f :: _ => p.setToggle ch (!toggleOf (frameBytes f))
  | [] => p

/-- The carried frame leaves its queue and the transmitter is FREE. -/
def Cport.letGo (p : Cport) (ch : Channel) : Cport := { p.setChan ch (p.chan ch).pop with carrying := none }

/-- The cab port after a SENT outcome (R169, R173, R174). -/
def Cport.sent (p : Cport) (ch : Channel) : Cport :=
  { (((p.flipToggle ch).settleToggle ch).letGo ch) with tx := { p.tx with failed := 0, drops := 0 } }

/-- The machine port after a SENT outcome (R5, R169). -/
def Mport.sent (m : Mport) : Mport :=
  { queue := m.queue.tail, carrying := false, tx := { m.tx with failed := 0, drops := 0 } }

/-- ATTEMPT_SENT (R169) on a port that carries a frame; otherwise nothing (log entry 6). -/
def execAttemptSent (port : Port) (s : State) : Host.Outcome State Fault Refusal :=
  .next (match port with
    | .cab =>
      match s.cport.carrying with
      | some ch => s.modCport fun p => p.sent ch
      | none => s
    | .machine => if s.mport.carrying then s.modMport Mport.sent else s)

/-- ATTEMPT_LOST (R169): the frame is attempted again and the counts are unchanged, so the state is as it was. -/
def execAttemptLost (_port : Port) (s : State) : Host.Outcome State Fault Refusal := .next s

/-! ### FAILED attempts, drops and silence (R169 to R171) -/

/-- The retry state after a drop at `t`: failed count 0, one more drop, and at the third the port SILENT with its
drop count 0 (R170, R171). -/
def TxState.dropped (x : TxState) (t : Time) : TxState :=
  if x.drops + 1 < Config.dropLimit then { x with failed := 0, drops := x.drops + 1 }
  else { failed := 0, drops := 0, silence := some (Time.plus t Config.silenceTime) }

/-- This drop silences the port (R171). -/
def TxState.silences (x : TxState) : Bool := !decide (x.drops + 1 < Config.dropLimit)

/-- The carried frame of a port is discarded from its queue; a pending toggle takes effect, the toggle is otherwise
unchanged (R170 step 1, R173, R174). -/
def State.discardCarried (port : Port) (s : State) : State :=
  match port with
  | .cab =>
    match s.cport.carrying with
    | some ch => s.modCport fun p => (p.settleToggle ch).letGo ch
    | none => s
  | .machine => s.modMport fun m => { m with queue := m.queue.tail, carrying := false }

/-- The sub-detail of TX_FAULT: the channel for the cab port, 0xF for the machine port (R170, R212). -/
def State.faultSub (s : State) : Port → Nat
  | .cab => (s.cport.carrying.map Channel.code).getD 0xF
  | .machine => 0xF

/-- The drop of the carried frame at `t`: TX_FAULT, and PORT_SILENT after it when the port falls silent (R170,
R171). -/
def State.dropCarried (port : Port) (t : Time) (s : State) : State :=
  let sub := s.faultSub port
  let x := s.tx port
  let s1 := (s.discardCarried port).setTx port (x.dropped t)
  let s2 := s1.raiseSub .txFault sub (portCode port) t
  if x.silences then s2.raiseAlert .portSilent (portCode port) t else s2

/-- A port's transmitter carries a frame. -/
def State.carries (s : State) : Port → Bool
  | .cab => s.cport.carrying.isSome
  | .machine => s.mport.carrying

/-- ATTEMPT_FAILED (R169): one more failed attempt, and the drop at the 8th; on a FREE transmitter nothing (log entry
6). -/
def execAttemptFailed (port : Port) (s : State) : Host.Outcome State Fault Refusal :=
  .next (if s.carries port then
      if (s.tx port).failed + 1 < Config.failLimit then
        s.setTx port { s.tx port with failed := (s.tx port).failed + 1 }
      else s.dropCarried port s.time
    else s)

/-- SILENCE_END (R171): the timebase has reached a SILENT port's end time; otherwise nothing (log entry 6). -/
def execSilenceEnd (port : Port) (s : State) : Host.Outcome State Fault Refusal :=
  .next (match s.due (s.tx port).silence with
    | some _ => s.setTx port { s.tx port with silence := none }
    | none => s)

end Sys2Proof.Machine
end

