-- ==== Sys2Proof/Machine/Dispatch.lean ====
section
/-! DEFINITION. The dispatch: one arm per command of the table, each a call of that command's meaning. -/

namespace Sys2Proof.Machine

def exec (i : Instr) (s : State) : Host.Outcome State Fault Refusal :=
  match i with
  | .coldReset pins => Sys2Proof.Machine.execColdReset pins s
  | .timebaseTick => Sys2Proof.Machine.execTimebaseTick s
  | .machineArrival arrival => Sys2Proof.Machine.execMachineArrival arrival s
  | .intervalTimerExpiry entry => Sys2Proof.Machine.execIntervalTimerExpiry entry s
  | .freshnessExpiry role => Sys2Proof.Machine.execFreshnessExpiry role s
  | .lossExpiry role => Sys2Proof.Machine.execLossExpiry role s
  | .windowTimeout => Sys2Proof.Machine.execWindowTimeout s
  | .encoderOfferTick => Sys2Proof.Machine.execEncoderOfferTick s
  | .phaseChange qa qb => Sys2Proof.Machine.execPhaseChange qa qb s
  | .indexPulse => Sys2Proof.Machine.execIndexPulse s
  | .lineLevelChange line level => Sys2Proof.Machine.execLineLevelChange line level s
  | .stabilityExpiry line => Sys2Proof.Machine.execStabilityExpiry line s
  | .cabArrival frame => Sys2Proof.Machine.execCabArrival frame s
  | .arbiterTake => Sys2Proof.Machine.execArbiterTake s
  | .machineTxTake => Sys2Proof.Machine.execMachineTxTake s
  | .attemptSent port => Sys2Proof.Machine.execAttemptSent port s
  | .attemptLost port => Sys2Proof.Machine.execAttemptLost port s
  | .attemptFailed port => Sys2Proof.Machine.execAttemptFailed port s
  | .silenceEnd port => Sys2Proof.Machine.execSilenceEnd port s
  | .gaugeTimerExpiry => Sys2Proof.Machine.execGaugeTimerExpiry s
  | .identify port tag item => Sys2Proof.Machine.execIdentify port tag item s
  | .queryStatus port tag page item part => Sys2Proof.Machine.execQueryStatus port tag page item part s
  | .readEntry port tag table index chunk => Sys2Proof.Machine.execReadEntry port tag table index chunk s
  | .queryLoad port tag index page part => Sys2Proof.Machine.execQueryLoad port tag index page part s
  | .queryTotals port tag selector counter => Sys2Proof.Machine.execQueryTotals port tag selector counter s
  | .readAlerts port tag => Sys2Proof.Machine.execReadAlerts port tag s
  | .setMode port tag mode target runs => Sys2Proof.Machine.execSetMode port tag mode target runs s
  | .openLoad port tag table first count => Sys2Proof.Machine.execOpenLoad port tag table first count s
  | .loadData port tag seq payload => Sys2Proof.Machine.execLoadData port tag seq payload s
  | .closeLoad port tag crc => Sys2Proof.Machine.execCloseLoad port tag crc s
  | .abortLoad port tag => Sys2Proof.Machine.execAbortLoad port tag s
  | .loadTimeout => Sys2Proof.Machine.execLoadTimeout s
  | .tare port tag => Sys2Proof.Machine.execTare port tag s
  | .cancelLast port tag => Sys2Proof.Machine.execCancelLast port tag s
  | .nextTruck port tag => Sys2Proof.Machine.execNextTruck port tag s
  | .shiftClose port tag => Sys2Proof.Machine.execShiftClose port tag s
  | .setTarget port tag target tolerance => Sys2Proof.Machine.execSetTarget port tag target tolerance s
  | .setMaterial port tag index => Sys2Proof.Machine.execSetMaterial port tag index s
  | .hold port tag channel => Sys2Proof.Machine.execHold port tag channel s
  | .release port tag channel => Sys2Proof.Machine.execRelease port tag channel s
  | .block port tag channel => Sys2Proof.Machine.execBlock port tag channel s
  | .unblock port tag channel => Sys2Proof.Machine.execUnblock port tag channel s
  | .toggleSet port tag channel => Sys2Proof.Machine.execToggleSet port tag channel s
  | .toggleClear port tag channel => Sys2Proof.Machine.execToggleClear port tag channel s
  | .setCapture port tag budget => Sys2Proof.Machine.execSetCapture port tag budget s
  | .setNotices port tag mask => Sys2Proof.Machine.execSetNotices port tag mask s
  | .clearAlerts port tag mask => Sys2Proof.Machine.execClearAlerts port tag mask s
  | .setNode port tag node => Sys2Proof.Machine.execSetNode port tag node s
  | .restart port tag => Sys2Proof.Machine.execRestart port tag s
  | .unknownCommand port code tag => Sys2Proof.Machine.execUnknownCommand port code tag s
  | .shortRequest port bytes => Sys2Proof.Machine.execShortRequest port bytes s

end Sys2Proof.Machine
end

