-- ==== Sys2Proof/Safety.lean ====
section
/-! DEFINITION. What counts as a safe run: the invariants that the rules give the blocks, in the terms the statements
use. A run is safe when every state of it meets them. -/

namespace Sys2Proof.Machine

/-! ### The two ports (R5, R159, R161, R169 to R174) -/

/-- Capacity of a channel (R159). -/
def Channel.capacity : Channel → Nat
  | .g => 1
  | .e => 16
  | .p => 32
  | .m => 8
  | .c => 16

/-- One channel among its port: at most its capacity queued, a carried frame is in its queue, and a BLOCKED channel
holds at most the frame being carried (R159, R161). -/
structure Cport.ChannelSound (p : Cport) (ch : Channel) : Prop where
  capacity : (p.chan ch).queue.length ≤ ch.capacity
  carried : p.carrying = some ch → (p.chan ch).queue ≠ []
  blocked : (p.chan ch).blocked = true → (p.chan ch).queue.length ≤ if p.carrying = some ch then 1 else 0

/-- A transmitter's counts between events: fewer than 8 failed attempts, fewer than 3 drops, and nothing carried while
SILENT (R169 to R171). -/
structure TxState.Sound (x : TxState) (carries : Bool) : Prop where
  failed : x.failed < 8
  drops : x.drops < 3
  silent : x.silence.isSome = true → carries = false

/-- The cab port: every channel, the transmitter, pending toggles only behind a carried frame (R174), and a 16-bit
budget (R175). -/
structure Cport.Sound (p : Cport) : Prop where
  channels : ∀ ch, p.ChannelSound ch
  tx : p.tx.Sound p.carrying.isSome
  pendingG : p.pendingG.isSome = true → p.carrying = some .g
  pendingE : p.pendingE.isSome = true → p.carrying = some .e
  budget : p.budget ≤ 65535

/-- The machine port: at most 4 responses, a carried one in the queue, and the transmitter (R5). -/
structure Mport.Sound (m : Mport) : Prop where
  capacity : m.queue.length ≤ 4
  carried : m.carrying = true → m.queue ≠ []
  tx : m.tx.Sound m.carrying

/-- Both ports. -/
def State.PortsSound (s : State) : Prop := s.cport.Sound ∧ s.mport.Sound

/-! ### Mode, window, cycle and calibration (R60, R86, R102, R182, R197, R199) -/

/-- The work in flight fits the mode: a window is OPEN only in RUN while RUNNING; a deferred change waits for an OPEN
window and its R is 1..4; a calibration is ACTIVE exactly in CALIBRATE; CYT leaves IDLE only in RUN while RUNNING, with
a cycle start time; a pending bucket or a tare-pass marker stands only in LIFT or CARRY; tare is armed only in RUN. -/
structure State.ModesSound (s : State) : Prop where
  window : s.wen.window.isSome = true → s.mgt.mode = .run ∧ s.din.power = .running
  deferred : s.mgt.deferred.isSome = true → s.wen.window.isSome = true
  deferredRuns : ∀ c r, s.mgt.deferred = some (.calibrate c r) → 1 ≤ r ∧ r ≤ 4
  calibration : s.wen.calibration.isSome = true ↔ s.mgt.mode = .calibrate
  cycle : s.cyt.state ≠ .idle → s.mgt.mode = .run ∧ s.din.power = .running ∧ s.cyt.start.isSome = true
  carried : s.cyt.pending.isSome = true ∨ s.cyt.marker = true → s.cyt.state = .lift ∨ s.cyt.state = .carry
  tareArmed : s.wen.tareArmed = true → s.mgt.mode = .run

/-! ### What RUN and CALIBRATE rest on (R85, R126, R201) -/

/-- The conditions of entry stay true: outside CONFIG the Machine Record is PRESENT and HEAD and BOOM are mapped; in RUN
the curve state is VALID, a band is used and the current material is used; a stored next-material is used. -/
structure State.ReadySound (s : State) : Prop where
  record : s.mgt.mode ≠ .config → s.wen.record.isSome = true
  head : s.mgt.mode ≠ .config → s.sig.head.mapped = true
  boom : s.mgt.mode ≠ .config → s.sig.boom.mapped = true
  curves : s.mgt.mode = .run → s.wen.curveState = .valid
  bands : s.mgt.mode = .run → anyBandUsed s.wen.bands = true
  material : s.mgt.mode = .run → s.lac.materialUsed = true
  nextMaterial : ∀ k, s.lac.nextMaterial = some k → s.lac.materials[k] ≠ 0

/-! ### The signal slots (R22, R23, R34 to R36) -/

/-- A slot by its role: its source is the one R23 settles; it is UNMAPPED exactly without a source; VALID and STALE
carry a value, AWAITING and UNMAPPED none; a timestamp goes with a value; the value lies in the role's range; a
freshness expiry runs exactly in VALID on a frame-fed slot; a loss expiry runs on a frame-fed slot that is AWAITING,
VALID or STALE; while PARKED the slot is UNMAPPED or AWAITING without expiries. -/
structure State.SlotSound (s : State) (r : Role) : Prop where
  source : (s.sig.slot r).source = sourceOf s.sig.sxt s.wen.record r
  unmapped : (s.sig.slot r).state = .unmapped ↔ (s.sig.slot r).source = .none
  present : (s.sig.slot r).state = .valid ∨ (s.sig.slot r).state = .stale → (s.sig.slot r).value.isSome = true
  absent : (s.sig.slot r).state = .unmapped ∨ (s.sig.slot r).state = .awaiting → (s.sig.slot r).value = none
  stamp : (s.sig.slot r).stamp.isSome = (s.sig.slot r).value.isSome
  range : ∀ v, (s.sig.slot r).value = some v → roleMin r ≤ v ∧ v ≤ roleMax r
  fresh : (s.sig.slot r).fresh.isSome = true ↔
    (s.sig.slot r).state = .valid ∧ lossDelay s.sig.sxt (s.sig.slot r).source ≠ none
  loss : (s.sig.slot r).loss.isSome = true → lossDelay s.sig.sxt (s.sig.slot r).source ≠ none ∧
    ((s.sig.slot r).state = .awaiting ∨ (s.sig.slot r).state = .valid ∨ (s.sig.slot r).state = .stale)
  watched : s.din.power = .running → lossDelay s.sig.sxt (s.sig.slot r).source ≠ none →
    (s.sig.slot r).state ≠ .lost → (s.sig.slot r).loss.isSome = true
  parked : s.din.power = .parked →
    ((s.sig.slot r).state = .unmapped ∨ (s.sig.slot r).state = .awaiting) ∧ (s.sig.slot r).loss = none

/-- Every slot. -/
def State.SlotsSound (s : State) : Prop := ∀ r, s.SlotSound r

/-- No two enabled SXT entries name one role (R26). -/
def State.RolesUnique (s : State) : Prop :=
  ∀ i j : Fin 16, s.sig.sxt[i].enabled = true → s.sig.sxt[j].enabled = true → s.sig.sxt[i].role = s.sig.sxt[j].role →
    i = j

/-! ### The weighing engine (R48, R60, R64, R67, R82, R86) -/

/-- An OPEN window: at most 128 stored samples, the running sum is theirs, and the counts are 16-bit (R60, R67). -/
structure Window.Sound (w : Window) : Prop where
  samples : w.samples.length ≤ 128
  sum : w.sum = w.masses.sum
  counts : w.counts.staleInput ≤ 65535 ∧ w.counts.outside ≤ 65535 ∧ w.counts.stall ≤ 65535 ∧
    w.counts.overspeed ≤ 65535 ∧ w.counts.outOfRange ≤ 65535 ∧ w.counts.excess ≤ 65535

/-- The range of a curve value and of a captured value (R48, R92). -/
def inCurveRange (v : Int) : Prop := -524280 ≤ v ∧ v ≤ 524280

/-- The values that the run in progress has added to the point sums: none in ARMED (R86). -/
def RunState.values : RunState → List Int
  | .armed _ => []
  | .rising _ _ _ values => values

/-- An ACTIVE calibration on a grid of `n` points: R is 1..4 with fewer runs done, a sum per point, at most n − 1 run
values, and a 16-bit broken count (R86); a run value lies in the curve range, and a point sum without the run value in
that range times the runs done, so that no sum leaves four times the range (R92, R93). -/
structure Calibration.Sound (c : Calibration) (n : Nat) : Prop where
  runs : 1 ≤ c.runs ∧ c.runs ≤ 4
  done : c.done < c.runs
  sums : c.sums.length = n
  count : c.run.values.length < n
  values : ∀ v ∈ c.run.values, inCurveRange v
  bounded : ∀ i, |c.sums.getD i 0 - c.run.values.getD i 0| ≤ 524280 * c.done
  broken : c.broken ≤ 65535

/-- WEN: a PRESENT record passed its checks, so that its grid has 4..24 points (R41, R43); the tare lies within its
limits (R82); a present curve has a value per grid point of a PRESENT record, each in the curve range (R48); an OPEN
window and an ACTIVE calibration are sound and stand on a PRESENT record. -/
structure Wen.Sound (w : Wen) : Prop where
  record : ∀ r, w.record = some r → r.ok = true
  tare : -2000 ≤ w.tare ∧ w.tare ≤ 2000
  curveE : ∀ e, w.curveE = some e → (∃ r, w.record = some r ∧ e.length = r.n) ∧ ∀ v ∈ e, inCurveRange v
  curveL : ∀ l, w.curveL = some l → (∃ r, w.record = some r ∧ l.length = r.n) ∧ ∀ v ∈ l, inCurveRange v
  window : ∀ x, w.window = some x → x.Sound ∧ w.record.isSome = true
  calibration : ∀ c, w.calibration = some c → ∃ r, w.record = some r ∧ c.Sound r.n

/-- WEN, with what a load in progress may still write: a curve load holds N entries of the record in force (R52). -/
structure State.WeighingSound (s : State) : Prop where
  wen : s.wen.Sound
  curveLoad : ∀ a, s.mgt.assembly = some a → a.table = .curveE ∨ a.table = .curveL →
    ∃ r, s.wen.record = some r ∧ a.count = r.n

/-! ### The loads (R124 to R137) -/

/-- A load: at most 16 records, numbered from 1 in dump order; total, unweighed count and INCOMPLETE follow the list;
OVERLOAD is the limit exceeded, and has been alerted; masses are at most 60,000 kg and fills at most 2,000; the load
number is 1..4,294,967,295. -/
structure Load.Sound (l : Load) : Prop where
  records : l.buckets.length ≤ 16
  positions : ∀ i, i < l.buckets.length → (l.buckets[i]?).map (·.position) = some (i + 1)
  total : l.total = massSum l.buckets
  unweighed : l.unweighed = absentCount l.buckets
  incomplete : l.incomplete = true ↔ l.unweighed ≠ 0
  overload : l.overload = true ↔ l.target ≠ 0 ∧ l.target + l.tolerance < l.total
  alerted : l.overload = true → l.alerted = true
  masses : ∀ b ∈ l.buckets, b.handed.mass.getD 0 ≤ 60000
  fills : ∀ b ∈ l.buckets, b.fill.getD 0 ≤ 2000
  number : 1 ≤ l.number ∧ l.number ≤ 4294967295

/-- LAC: the current load is sound and follows the settings (R132); the list holds at most 8 sound loads of 1..16
records whose numbers strictly increase and stay below the current number (R125); densities are 0 or 500..5,000
(R126). -/
structure Lac.Sound (a : Lac) : Prop where
  load : a.load.Sound
  target : a.load.target = a.target ∧ a.target ≤ 200000
  tolerance : a.load.tolerance = a.tolerance ∧ a.tolerance ≤ 20000
  count : a.completed.length ≤ 8
  summaries : ∀ x ∈ a.completed, x.load.Sound ∧ x.load.buckets ≠ [] ∧ x.load.number < a.load.number
  ordered : a.completed.Pairwise fun x y => x.load.number < y.load.number
  densities : ∀ k : Fin 16, a.materials[k] = 0 ∨ 500 ≤ a.materials[k] ∧ a.materials[k] ≤ 5000

/-- LAC, with the mass that CYT may still hand over (R111). -/
structure State.LoadsSound (s : State) : Prop where
  lac : s.lac.Sound
  pending : ∀ p, s.cyt.pending = some p → p.mass.getD 0 ≤ 60000

/-! ### The load assembly (R189) and the alert flags (R202) -/

/-- A load in progress: a run inside its table and the buffer, and no more bytes received than declared. -/
structure Assembly.Sound (a : Assembly) : Prop where
  run : 1 ≤ a.count ∧ a.first + a.count ≤ a.table.entries
  declared : a.declared = a.count * a.table.bytes ∧ a.declared ≤ 512
  received : a.received.length ≤ a.declared

/-- MGT: a load in progress is sound, and the spare alert flags 12..15 are clear. -/
structure Mgt.Sound (m : Mgt) : Prop where
  assembly : ∀ a, m.assembly = some a → a.Sound
  spare : m.alerts &&& 0xF000 = 0

/-! ### Parking (R21, R154, R177, R179) -/

/-- While PARKED: no window, the gauge timer IDLE, every holding slot empty and every interval timer IDLE, G and P
drained but for a carried frame, and a calibration run ARMED with no start sample. -/
structure State.ParkedQuiet (s : State) : Prop where
  window : s.din.power = .parked → s.wen.window = none
  gauge : s.din.power = .parked → s.cport.gauge = none
  held : s.din.power = .parked → ∀ i : Fin 48, s.fcl.held[i] = none ∧ s.fcl.timers[i] = none
  drained : s.din.power = .parked → ∀ ch, ch = .g ∨ ch = .p →
    (s.cport.chan ch).queue.length ≤ if s.cport.carrying = some ch then 1 else 0
  run : s.din.power = .parked → ∀ c, s.wen.calibration = some c → c.run = .armed none

/-- The holding discipline of FCL: a frame waits only behind a running interval timer (R17, R18). -/
def State.HoldingSound (s : State) : Prop := ∀ i : Fin 48, s.fcl.held[i].isSome = true → s.fcl.timers[i].isSome = true

/-! ### Words of the statements -/

/-- The arbiter's order of the channels: M, E, G, C, P (R168). -/
def Channel.rank : Channel → Nat
  | .m => 0
  | .e => 1
  | .g => 2
  | .c => 3
  | .p => 4

/-- The place of a phase state in the order in which the encoder counts up: 00, 10, 11, 01 (R150). -/
def phasePlace (qa qb : Bool) : Nat :=
  match qa, qb with
  | false, false => 0
  | true, false => 1
  | true, true => 2
  | false, true => 3

/-- The response queue of a port: channel M, or the machine response queue (R183). -/
def State.responses (s : State) : Port → List Frame
  | .cab => s.cport.m.queue
  | .machine => s.mport.queue

/-- The port's responses are kept: for the cab port, M is not BLOCKED (R165). -/
def State.keepsResponses (s : State) : Port → Bool
  | .cab => !s.cport.m.blocked
  | .machine => true

/-- The frames that channel E holds after these are offered to it in order (R163). -/
def ChannelState.afterOffers (x : ChannelState) (fs : List Frame) : List Frame :=
  if x.blocked then x.queue else x.queue ++ fs.take (16 - x.queue.length)

/-- A CLOSE_LOAD from `p` finds its own OPEN load `a`, in a mode in which its table is writable, with every declared
byte and the right CRC-8: it has passed checks 1 to 3 (R192). -/
structure State.ReadyToClose (s : State) (p : Port) (crc : Byte) (a : Assembly) : Prop where
  assembly : s.mgt.assembly = some a
  owner : a.owner = p
  isOpen : a.failed = false
  writable : s.mgt.mode = .config ∨ a.table = .material
  declared : a.declared = a.count * a.table.bytes
  received : a.received.length = a.declared
  crc : crc8 a.received = crc

/-- The bytes of entry `j` of a run (R214). -/
def Assembly.entry (a : Assembly) (j : Nat) : List Byte := slice a.received (j * a.table.bytes) a.table.bytes

/-- The run decodes to these entries, and every one passes its check at its index in the table. -/
def Assembly.Holds {α : Type} (a : Assembly) (decode : List Byte → Option α) (ok : Nat → α → Prop) (xs : List α) :
    Prop :=
  xs.length = a.count ∧ ∀ j x, xs[j]? = some x → decode (a.entry j) = some x ∧ ok (a.first + j) x

/-- Entry `j` is the first of the run that does not decode or breaks its check. -/
def Assembly.BreaksAt {α : Type} (a : Assembly) (decode : List Byte → Option α) (ok : Nat → α → Prop) (j : Nat) :
    Prop :=
  j < a.count ∧ (∀ i, i < j → ∃ x, decode (a.entry i) = some x ∧ ok (a.first + i) x) ∧
    ∀ x, decode (a.entry j) = some x → ¬ ok (a.first + j) x

/-- A band keeps the checks of R65 in the table it stands in. -/
def bandAllowed (v : Vector Band 8) (k : Fin 8) : Prop :=
  v[k].upper ≤ 6000 ∧ -200 ≤ v[k].correction ∧ v[k].correction ≤ 200 ∧
    (v[k].upper ≠ 0 → ∀ j : Fin 8, j < k → v[j].upper ≠ 0 ∧ v[j].upper < v[k].upper)

/-- A slot as R27 sets it for a source, at `t`. -/
def slotOfSource (sxt : Vector SxtEntry 16) (power : Power) (t : Time) (src : Source) : Slot :=
  { source := src, state := if src = .none then .unmapped else .awaiting, value := none, stamp := none, fresh := none,
    loss := match power, src with
      | .running, .sxt k => some (Time.plus t (4 * sxt[k].timeout))
      | .running, .encoder => none
      | .running, .none => none
      | .parked, _ => none
    implausible := false, short := false, clamped := false }

/-- An arrival or another command carries a management request for this node that the part takes: it may do what that
request's row does. -/
def carriesRequest (s : State) (i : Instr) : Bool :=
  match i with
  | .cabArrival f => (s.requestOf f).isSome
  | .machineArrival a => s.din.service && (s.requestOf a.frame).isSome
  | .coldReset _ | .timebaseTick | .intervalTimerExpiry _ | .freshnessExpiry _ | .lossExpiry _ | .windowTimeout
  | .encoderOfferTick | .phaseChange _ _ | .indexPulse | .lineLevelChange _ _ | .stabilityExpiry _ | .arbiterTake
  | .machineTxTake | .attemptSent _ | .attemptLost _ | .attemptFailed _ | .silenceEnd _ | .gaugeTimerExpiry
  | .identify _ _ _ | .queryStatus _ _ _ _ _ | .readEntry _ _ _ _ _ | .queryLoad _ _ _ _ _ | .queryTotals _ _ _ _
  | .readAlerts _ _ | .setMode _ _ _ _ _ | .openLoad _ _ _ _ _ | .loadData _ _ _ _ | .closeLoad _ _ _ | .abortLoad _ _
  | .loadTimeout | .tare _ _ | .cancelLast _ _ | .nextTruck _ _ | .shiftClose _ _ | .setTarget _ _ _ _
  | .setMaterial _ _ _ | .hold _ _ _ | .release _ _ _ | .block _ _ _ | .unblock _ _ _ | .toggleSet _ _ _
  | .toggleClear _ _ _ | .setCapture _ _ _ | .setNotices _ _ _ | .clearAlerts _ _ _ | .setNode _ _ _ | .restart _ _
  | .unknownCommand _ _ _ | .shortRequest _ _ => false

/-- The rows that may write a table, the node or the notice mask: a cold reset, CLOSE_LOAD, SET_NODE and SET_NOTICES. -/
def configures (i : Instr) : Bool :=
  match i with
  | .coldReset _ | .closeLoad _ _ _ | .setNode _ _ _ | .setNotices _ _ _ => true
  | .machineArrival _ | .cabArrival _ | .timebaseTick | .intervalTimerExpiry _ | .freshnessExpiry _ | .lossExpiry _
  | .windowTimeout | .encoderOfferTick | .phaseChange _ _ | .indexPulse | .lineLevelChange _ _ | .stabilityExpiry _
  | .arbiterTake | .machineTxTake | .attemptSent _ | .attemptLost _ | .attemptFailed _ | .silenceEnd _
  | .gaugeTimerExpiry | .identify _ _ _ | .queryStatus _ _ _ _ _ | .readEntry _ _ _ _ _ | .queryLoad _ _ _ _ _
  | .queryTotals _ _ _ _ | .readAlerts _ _ | .setMode _ _ _ _ _ | .openLoad _ _ _ _ _ | .loadData _ _ _ _
  | .abortLoad _ _ | .loadTimeout | .tare _ _ | .cancelLast _ _ | .nextTruck _ _ | .shiftClose _ _ | .setTarget _ _ _ _
  | .setMaterial _ _ _ | .hold _ _ _ | .release _ _ _ | .block _ _ _ | .unblock _ _ _ | .toggleSet _ _ _
  | .toggleClear _ _ _ | .setCapture _ _ _ | .clearAlerts _ _ _ | .restart _ _ | .unknownCommand _ _ _
  | .shortRequest _ _ => false

/-- The rows that may set the capture budget: SET_CAPTURE and the two resets (R175). -/
def setsBudget (i : Instr) : Bool :=
  match i with
  | .coldReset _ | .restart _ _ | .setCapture _ _ _ => true
  | .machineArrival _ | .cabArrival _ | .timebaseTick | .intervalTimerExpiry _ | .freshnessExpiry _ | .lossExpiry _
  | .windowTimeout | .encoderOfferTick | .phaseChange _ _ | .indexPulse | .lineLevelChange _ _ | .stabilityExpiry _
  | .arbiterTake | .machineTxTake | .attemptSent _ | .attemptLost _ | .attemptFailed _ | .silenceEnd _
  | .gaugeTimerExpiry | .identify _ _ _ | .queryStatus _ _ _ _ _ | .readEntry _ _ _ _ _ | .queryLoad _ _ _ _ _
  | .queryTotals _ _ _ _ | .readAlerts _ _ | .setMode _ _ _ _ _ | .openLoad _ _ _ _ _ | .loadData _ _ _ _
  | .closeLoad _ _ _ | .abortLoad _ _ | .loadTimeout | .tare _ _ | .cancelLast _ _ | .nextTruck _ _ | .shiftClose _ _
  | .setTarget _ _ _ _ | .setMaterial _ _ _ | .hold _ _ _ | .release _ _ _ | .block _ _ _ | .unblock _ _ _
  | .toggleSet _ _ _ | .toggleClear _ _ _ | .setNotices _ _ _ | .clearAlerts _ _ _ | .setNode _ _ _
  | .unknownCommand _ _ _ | .shortRequest _ _ => false

/-! ### Channel E and the alerts, in the words of R163 and R202 -/

/-- The state after a frame is offered to channel E: discarded while E is BLOCKED, queued as the newest while E holds
fewer than 16 frames, else discarded with EVENT_LOST latched (R163). -/
def State.afterOffer (f : Frame) (s : State) : State :=
  if s.cport.e.blocked then s
  else if s.cport.e.queue.length < 16 then
    { s with cport := { s.cport with e := { s.cport.e with queue := s.cport.e.queue ++ [f] } } }
  else { s with mgt := { s.mgt with alerts := s.mgt.alerts ||| 0x0020 } }

/-- The state after alert `n`, other than EVENT_LOST, is raised: its flag latched, and with its mask bit set an ALERT
frame offered to E, with sub-detail, detail and timestamp at their places (R202, R212). -/
def State.afterAlert (n sub detail : Nat) (t : Time) (s : State) : State :=
  let latched : State := { s with mgt := { s.mgt with alerts := s.mgt.alerts ||| BitVec.ofNat 16 (2 ^ n) } }
  if s.mgt.mask.getLsbD n then
    latched.afterOffer (dataFrame (0x0C7A0400#29 + s.mgt.node.setWidth 29)
      (BitVec.ofNat 8 (n + 16 * sub) :: leBytes 2 detail ++ leBytes 4 t.toNat ++ [0]))
  else latched

/-- The value of `w` bits of a frame word from bit `lo` on (R209). -/
def wordBits (bytes : List Byte) (lo w : Nat) : Nat := leNat bytes / 2 ^ lo % 2 ^ w

/-- A quantity in a coarser unit, rounded and saturated to 0..`top` (R209). -/
def reduced (unit top v : Nat) : Nat := min top (rdiv v unit).toNat

/-! ### The loads, in the words of R131, R134 and R142 -/

/-- The state after OVERLOAD is evaluated on the current load at `t`: the flag follows the limit, and the first crossing
of a load raises OVERLOAD_ALERT with the excess and sets the marker (R131). -/
def State.afterOverload (t : Time) (s : State) : State :=
  let l := s.lac.load
  let limit := l.target + l.tolerance
  if l.target ≠ 0 ∧ limit < l.total then
    let marked : State := { s with lac := { s.lac with load := { l with overload := true, alerted := true } } }
    if l.alerted then marked else marked.afterAlert 4 15 (min 65535 (l.total - limit)) t
  else { s with lac := { s.lac with load := { l with overload := false } } }

/-- `f` is the BUCKET frame of record `b` on the load `l` that holds it, under a node (R142, R212). -/
structure BucketFrame (node : Byte) (l : Load) (b : BucketRecord) (f : Frame) : Prop where
  id : f.id = .extended (0x0C7A0200#29 + node.setWidth 29)
  body : f.body = .data (frameBytes f)
  length : (frameBytes f).length = 8
  position : wordBits (frameBytes f) 0 5 = b.position % 32
  cls : wordBits (frameBytes f) 5 3 = match b.handed.cls, b.handed.reason with
    | .weighed, _ => 0
    | .unsteady, _ => 1
    | .partialLift, _ => 2
    | .notWeighed, some .signal => 4
    | .notWeighed, some .noWindow => 5
    | .notWeighed, _ => 3
  belowZero : wordBits (frameBytes f) 8 1 = b.handed.belowZero.toNat
  overRange : wordBits (frameBytes f) 9 1 = b.handed.overRange.toNat
  reweighed : wordBits (frameBytes f) 10 1 = b.handed.reweighed.toNat
  number : wordBits (frameBytes f) 11 5 = l.number % 32
  mass : wordBits (frameBytes f) 16 16 = b.handed.mass.getD 65535 % 65536
  fill : wordBits (frameBytes f) 32 11 = b.fill.getD 2047 % 2048
  digToDump : wordBits (frameBytes f) 43 6 = reduced 1000 63 b.handed.digToDump.toNat
  total : wordBits (frameBytes f) 49 14 = reduced 100 9600 l.total
  toggle : wordBits (frameBytes f) 63 1 = 0

/-- `f` is the LOAD_CLOSED frame of the load `l`, under a node (R142, R212). -/
structure LoadClosedFrame (node : Byte) (l : Load) (by' : ClosedBy) (f : Frame) : Prop where
  id : f.id = .extended (0x0C7A0300#29 + node.setWidth 29)
  body : f.body = .data (frameBytes f)
  length : (frameBytes f).length = 8
  number : wordBits (frameBytes f) 0 24 = l.number % 16777216
  total : wordBits (frameBytes f) 24 20 = l.total % 1048576
  material : wordBits (frameBytes f) 44 4 = l.material.val
  count : wordBits (frameBytes f) 48 5 = l.buckets.length % 32
  unweighed : wordBits (frameBytes f) 53 5 = l.unweighed % 32
  closedBy : wordBits (frameBytes f) 58 2 = match by' with
    | .auto => 0
    | .operator => 1
    | .management => 2
  overload : wordBits (frameBytes f) 60 1 = l.overload.toNat
  rest : wordBits (frameBytes f) 61 3 = 0

/-- The state after the current load is closed at `t` with this LOAD_CLOSED frame: the summary filed, or the list
emptied at the number wrap; the totals of its material increased; the frame offered; the next load opened (R134). -/
def State.afterClosing (by' : ClosedBy) (t : Time) (f : Frame) (s : State) : State :=
  let l := s.lac.load
  let m := s.lac.totals.materials[l.material]
  let add := fun a b : Nat => min 4294967295 (a + b)
  let counted : MaterialTotals :=
    { trucks := add m.trucks 1, buckets := add m.buckets l.buckets.length, unweighed := add m.unweighed l.unweighed,
      mass := add m.mass l.total }
  { s.afterOffer f with lac := { s.lac with
      completed := if l.number = 4294967295 then []
        else (if s.lac.completed.length < 8 then s.lac.completed else s.lac.completed.drop 1) ++ [⟨l, t, by'⟩]
      totals := { s.lac.totals with materials := s.lac.totals.materials.set l.material counted }
      load := { number := if l.number = 4294967295 then 1 else l.number + 1,
                material := s.lac.nextMaterial.getD l.material, target := s.lac.target, tolerance := s.lac.tolerance,
                buckets := [], total := 0, unweighed := 0, openTime := t, incomplete := false, overload := false,
                alerted := false }
      nextMaterial := none } }

/-- The live mass: of the OPEN window's running mean less the tare, else of the pending bucket, else of the newest
record, else 0 (R80). -/
def State.massShown (s : State) : Nat :=
  let newest := match s.lac.load.buckets.getLast? with
    | some b => b.handed.mass.getD 0
    | none => 0
  let held := match s.cyt.pending with
    | some p => p.mass.getD newest
    | none => newest
  match s.wen.window with
  | some w =>
    if w.samples = [] then held else (max 0 (min 60000 (rdiv w.sum w.samples.length - s.wen.tare))).toNat
  | none => held

/-! ### The layouts of R213 and R214: the bytes that stand at each offset -/

/-- A record of this many bytes holds these bytes at these offsets. -/
def pageHolds (page : List Byte) (length : Nat) (fields : List (Nat × List Byte)) : Prop :=
  page.length = length ∧ ∀ x ∈ fields, slice page x.1 x.2.length = x.2

/-- Page GENERAL. The deferred R reads 0 without one (log entry 7). -/
def State.generalFields (s : State) : List (Nat × List Byte) :=
  [(0, eField s.mgt.mode.code),
   (1, match s.mgt.deferred with
     | none => [0xFF]
     | some .config => [0]
     | some (.calibrate _ _) => [2]),
   (2, match s.mgt.deferred with
     | none | some .config => [0xFF]
     | some (.calibrate c _) => eField c.code),
   (3, match s.mgt.deferred with
     | none | some .config => [0]
     | some (.calibrate _ r) => eField r),
   (4, eField s.din.power.code), (5, bField s.wen.record.isSome), (6, eField s.wen.curveState.code),
   (7, eField s.cyt.state.code), (8, bField s.wen.window.isSome), (9, eField s.din.homing.code),
   (10, bField s.din.service),
   (11, bField (decide (∀ i : Fin 4, s.din.lines[i].function = .key → s.din.lines[i].debounced = true)))]

/-- Page ROLE. UNUSED stands on BOOM's page alone (log entry 18). -/
def State.roleFields (r : Role) (s : State) : List (Nat × List Byte) :=
  let x := s.sig.slot r
  let unused := decide (r = .boom ∧ encoderSelected s.wen.record = true ∧
    ∃ i : Fin 16, s.sig.sxt[i].enabled = true ∧ s.sig.sxt[i].role = .boom)
  [(0, eField x.source.code), (1, eField x.state.code), (2, sField? 4 x.value), (6, tField? x.stamp),
   (11, fField [x.implausible, x.short, x.clamped, unused]),
   (12, sField? 4 (if r = .boom then s.sig.omega else none))]

/-- The six counts in order, U16 each. -/
def countBytes (c : Counts) : List Byte :=
  uField 2 c.staleInput ++ uField 2 c.outside ++ uField 2 c.stall ++ uField 2 c.overspeed ++ uField 2 c.outOfRange ++
    uField 2 c.excess

/-- Page WINDOW. -/
def State.windowFields (s : State) : List (Nat × List Byte) :=
  (match s.wen.window with
    | none => [(0, List.replicate 30 0)]
    | some w =>
      [(0, [1]), (1, tField w.openTime), (5, tField w.timeout), (9, sField? 4 (some w.highest)),
       (13, uField 1 w.samples.length),
       (14, sField? 4 (if w.samples = [] then none else some (rdiv w.sum w.samples.length))),
       (18, countBytes w.counts)]) ++
  [(30, sField? 4 s.wen.prevTheta), (34, sField? 4 (s.wen.latest.map fun x => x.force)),
   (38, sField? 4 (s.wen.latest.bind fun x => x.theta)), (42, tField? (s.wen.latest.map fun x => x.time)),
   (47, sField? 2 (some s.wen.tare)), (49, bField s.wen.tareArmed), (50, uField 2 s.massShown)]

/-- Page RESULT. The numbers and times of an absent result read 0 (log entry 7). -/
def State.resultFields (s : State) : List (Nat × List Byte) :=
  match s.wen.lastResult with
  | none =>
    [(0, [0]), (1, [0xFF, 0xFF, 0xFF, 0xFF]), (5, sField? 4 none), (9, [0xFF, 0xFF]), (11, [0]),
     (12, [0xFF, 0xFF, 0xFF, 0xFF]), (16, List.replicate 22 0)]
  | some r =>
    [(0, [1]), (1, eField r.ending.code), (2, eField r.cls.code), (3, eField? (r.reason.map Reason.code)),
     (4, eField r.kind.code), (5, sField? 4 r.mean), (9, uField? 2 r.mass), (11, fField [r.belowZero, r.overRange]),
     (12, uField? 4 r.spread), (16, uField 1 r.n), (17, uField 1 r.t), (18, countBytes r.counts),
     (30, tField r.openTime), (34, tField r.endTime)]

/-- Page CYCLE. The numbers and time of an absent pending bucket read 0 (log entry 7). -/
def State.cycleFields (s : State) : List (Nat × List Byte) :=
  [(0, eField s.cyt.state.code), (1, tField? s.cyt.start), (6, tField s.cyt.lastCycle), (10, bField s.cyt.marker),
   (11, bField s.cyt.tipArmed)] ++
  match s.cyt.pending with
  | none => [(12, [0]), (13, [0xFF, 0xFF]), (15, [0xFF, 0xFF]), (17, [0]), (18, [0xFF]), (19, List.replicate 17 0)]
  | some p =>
    [(12, [1]), (13, uField? 2 p.mass), (15, eField p.cls.code), (16, eField? (p.reason.map Reason.code)),
     (17, fField [p.belowZero, p.overRange, p.reweighed]), (18, eField p.ending.code), (19, uField 1 p.n),
     (20, countBytes p.counts), (32, tField p.endTime)]

/-- Page CURVES. -/
def State.curvesFields (s : State) : List (Nat × List Byte) :=
  [(0, eField s.wen.curveState.code), (1, fField [s.wen.curveE.isSome, s.wen.curveL.isSome])] ++
  match s.wen.calibration with
  | none => [(2, List.replicate 16 0)]
  | some c =>
    [(2, [1]), (3, eField c.target.code), (4, uField 1 c.runs), (5, uField 1 c.done)] ++
    match c.run with
    | .armed start =>
      [(6, [0]), (7, uField 2 c.broken), (9, sField? 4 (start.map fun x => x.1)), (13, List.replicate 5 0)]
    | .rising _ _ highest values =>
      [(6, [1]), (7, uField 2 c.broken), (9, sField? 4 none), (13, uField 1 values.length),
       (14, sField? 4 (some highest))]

/-- Page LINES. -/
def Line.fields (l : Line) : List (Nat × List Byte) :=
  [(0, eField l.function.code), (1, eField l.edge.code), (2, uField 2 l.debounce), (4, bField l.raw),
   (5, bField l.debounced), (6, bField l.flag), (7, tField? l.lastRise), (12, tField? l.lastFall)]

/-- Page ENCODER. The counter is sent as it stands (log entry 10). -/
def State.encoderFields (s : State) : List (Nat × List Byte) :=
  [(0, leInt 4 s.din.counter.toInt), (4, eField s.din.homing.code), (5, uField 2 s.din.phaseErrors),
   (7, sField? 4 (match s.wen.record with
     | none => none
     | some r =>
       if s.din.homing = .homed ∧ r.boomSource = .encoder then
         some (r.indexAngle + rdiv (s.din.counter.toInt * r.encNum) r.encDen)
       else none))]

/-- The first items of page PORT. The end of no silence reads 0 (log entry 7). -/
def TxState.fields (x : TxState) (carried : Option Nat) : List (Nat × List Byte) :=
  [(0, eField? carried), (1, uField 1 x.failed), (2, uField 1 x.drops), (3, bField x.silence.isSome),
   (4, tField (x.silence.getD 0))]

/-- The items of a channel on page PORT, from an offset on. -/
def ChannelState.fields (x : ChannelState) (off : Nat) : List (Nat × List Byte) :=
  [(off, if x.blocked then [2] else if x.held then [1] else [0]), (off + 1, bField x.held),
   (off + 2, bField x.blocked), (off + 3, uField 1 x.queue.length)]

/-- Page PORT for CAB. The expiry of an IDLE gauge timer reads 0 (log entry 7). -/
def State.cabFields (s : State) : List (Nat × List Byte) :=
  s.cport.tx.fields (s.cport.carrying.map Channel.code) ++ s.cport.g.fields 8 ++ s.cport.e.fields 12 ++
  s.cport.p.fields 16 ++ s.cport.m.fields 20 ++ s.cport.c.fields 24 ++
  [(28, bField s.cport.toggleG), (29, bField s.cport.toggleE), (30, eField? (s.cport.pendingG.map Bool.toNat)),
   (31, eField? (s.cport.pendingE.map Bool.toNat)), (32, uField 2 s.cport.budget), (34, bField s.cport.gap),
   (35, bField s.cport.gauge.isSome), (36, tField (s.cport.gauge.getD 0))]

/-- Page PORT for MACHINE; a carried response has code 5. -/
def State.machineFields (s : State) : List (Nat × List Byte) :=
  s.mport.tx.fields (if s.mport.carrying then some 5 else none) ++ [(8, uField 1 s.mport.queue.length)]

/-- Page MANAGEMENT. The run, the totals and the sequence of a FREE assembly read 0 (log entry 7). -/
def State.managementFields (s : State) : List (Nat × List Byte) :=
  (match s.mgt.assembly with
    | none => [(0, [0]), (1, [0xFF, 0xFF]), (3, List.replicate 7 0)]
    | some a =>
      [(0, if a.failed then [2] else [1]), (1, eField (portCode a.owner)), (2, eField a.table.code),
       (3, uField 1 a.first), (4, uField 1 a.count), (5, uField 2 a.declared), (7, uField 2 a.received.length),
       (9, [a.expected])]) ++
  [(10, [s.mgt.node]), (11, leBytes 2 s.mgt.mask.toNat)]

/-- Page 0 of QUERY_LOAD: the load header. -/
def Load.headerFields (l : Load) (closing : Option (Time × ClosedBy)) : List (Nat × List Byte) :=
  [(0, uField 4 l.number), (4, uField 1 l.material.val), (5, uField 3 l.target), (8, uField 2 l.tolerance),
   (10, uField 1 l.buckets.length), (11, uField 1 l.unweighed), (12, uField 3 l.total), (15, tField l.openTime),
   (19, fField [l.incomplete, l.overload]), (20, tField ((closing.map fun c => c.1).getD 0)),
   (24, eField? (closing.map fun c => c.2.code))]

/-- A bucket page of QUERY_LOAD. -/
def BucketRecord.fields (b : BucketRecord) : List (Nat × List Byte) :=
  [(0, uField 1 b.position), (1, uField? 2 b.handed.mass), (3, uField? 2 b.fill), (5, eField b.handed.cls.code),
   (6, eField? (b.handed.reason.map Reason.code)),
   (7, fField [b.handed.belowZero, b.handed.overRange, b.handed.reweighed]), (8, tField b.handed.digToDump),
   (12, tField b.handed.dumpTime), (16, uField 1 b.handed.n)]

/-- A FAT entry, 16 bytes. -/
def FatEntry.fields (e : FatEntry) : List (Nat × List Byte) :=
  let ref := fun r : Option (Fin 16) => match r with
    | some i => eField i.val
    | none => [0xFF]
  [(0, leBytes 4 e.ident.toNat), (4, leBytes 4 e.mask.toNat), (8, bField e.enabled),
   (9, fField [e.forward, e.extract, e.capture]), (10, ref e.ref1), (11, ref e.ref2),
   (12, leBytes 2 (e.interval / 10)), (14, [0, 0])]

/-- An SXT entry, 20 bytes. -/
def SxtEntry.fields (e : SxtEntry) : List (Nat × List Byte) :=
  [(0, fField [e.enabled, decide (e.order = .big), decide (e.signedness = .signed)]), (1, eField (roleCode e.role)),
   (2, eField e.start), (3, eField e.length), (4, leInt 2 e.multiplier), (6, leBytes 2 e.divisor),
   (8, leInt 3 e.offset), (11, leInt 3 e.plausMin), (14, leInt 3 e.plausMax), (17, leBytes 2 e.timeout), (19, [0])]

/-- The Machine Record, 64 bytes. -/
def MachineRecord.fields (r : MachineRecord) : List (Nat × List Byte) :=
  [(0, leBytes 2 r.aHead), (2, leBytes 2 r.aRod), (4, eField r.nCyl), (5, eField r.boomSource.code),
   (6, leBytes 2 r.mRef), (8, leInt 2 r.theta0), (10, leBytes 2 r.dTheta), (12, eField r.n), (13, eField r.trim),
   (14, leBytes 2 r.calSpeed), (16, leInt 2 r.thetaLo), (18, leInt 2 r.thetaHi), (20, eField r.nMin),
   (21, fField ((List.finRange 8).map fun z => decide (r.zones[z] = .drop))), (22, leBytes 2 r.spreadLimit),
   (24, leBytes 2 r.windowTimeout), (26, leBytes 2 r.omegaMin), (28, leInt 2 r.thetaDig), (30, leBytes 3 r.fDig),
   (33, eField r.standard.code), (34, leBytes 2 r.h), (36, leInt 2 r.thetaDump), (38, leBytes 2 r.volume),
   (40, leBytes 2 r.gaugePeriod), (42, leInt 2 r.encNum), (44, leBytes 2 r.encDen), (46, leInt 2 r.indexAngle),
   (48, List.replicate 16 0)]

/-- A LINES entry, 4 bytes. -/
def Line.entryFields (l : Line) : List (Nat × List Byte) :=
  [(0, eField l.function.code), (1, eField l.edge.code), (2, leBytes 2 l.debounce)]

end Sys2Proof.Machine
end

