-- ==== Sys2Proof/Certificates/Slice0/Obligations.lean ====
section
/-! DEFINITION. The statements about the part, for the provers: each a proposition over every state, from the numbered
rules of spec/. -/

section
open Sys2Proof Sys2Proof.Machine

/-! ### The queue and the timebase -/

/-- A step carries out the command at the front of the queue with the queue's rest, and idles on an empty queue (the
model's choice, log entry 2). -/
def Obligations.StepRunsFrontCommand : Prop :=
  (∀ (c : Instr) (rest : List Instr) (s : State), s.pending = c :: rest →
    step s = exec c { s with pending := rest }) ∧
  ∀ s : State, s.pending = [] → step s = .next s

/-- Every command completes (from R183 and the effects that every rule gives). The rest is the model's choice: no
command touches the queue of waiting commands and only a cold reset and a tick change the timebase (log entry 2), and
only a cold reset changes the bit rate (log entry 4). -/
def Obligations.EveryCommandCompletes : Prop :=
  ∀ (c : Instr) (s : State), ∃ t, exec c s = .next t ∧ t.pending = s.pending ∧
    ((∀ pins, c ≠ .coldReset pins) → t.baud = s.baud ∧ (c ≠ .timebaseTick → t.time = s.time))

/-- From R1: a tick advances the timebase by 1, it wraps from 4,294,967,295 to 0, and the difference of two times is
right across the wrap. That a tick does nothing else is the model's choice (log entry 2). -/
def Obligations.TickAdvancesTheTimebase : Prop :=
  (∀ s : State, ∃ t, exec .timebaseTick s = .next t ∧ t = { s with time := s.time + 1 } ∧
    t.time.toNat = if s.time.toNat = 4294967295 then 0 else s.time.toNat + 1) ∧
  ∀ (t : Time) (d : Nat), d < 4294967296 → Time.since (Time.plus t d) t = d

/-! ### Resets -/

/-- From R8, R12, R22, R24, R40, R42, R48, R60, R64, R86, R102, R124, R125, R137, R140, R143, R159, R182: what a cold
reset leaves. -/
def Obligations.ColdResetSetsColdValues : Prop :=
  ∀ (p : ResetPins) (s : State), ∃ t, exec (.coldReset p) s = .next t ∧
    t.time = 0 ∧ t.baud = p.baud ∧
    t.mgt = { mode := .config, deferred := none, assembly := none, alerts := 0, mask := 0xFFFF,
              node := BitVec.ofNat 8 (0x40 + p.straps.val) } ∧
    (∀ i : Fin 48, t.fcl.held[i] = none ∧ t.fcl.timers[i] = none ∧
      t.fcl.fat[i] = { enabled := false, ident := 0, mask := 0, forward := false, extract := false, capture := false,
                       ref1 := none, ref2 := none, interval := 0 }) ∧
    (∀ z : Fin 8, t.fcl.zones[z] = .forward) ∧ t.fcl.standard = .forward ∧
    (∀ i : Fin 16, t.sig.sxt[i] =
      { enabled := false, role := .head, start := 0, length := 1, order := .little, signedness := .unsigned,
        multiplier := 1, divisor := 1, offset := 0, plausMin := 0, plausMax := 0, timeout := 10 }) ∧
    (∀ r, t.sig.slot r = { source := .none, state := .unmapped, value := none, stamp := none, fresh := none,
                           loss := none, implausible := false, short := false, clamped := false }) ∧
    t.sig.omega = none ∧ t.sig.prevBoom = none ∧
    t.din.counter = 0 ∧ t.din.qa = p.qa ∧ t.din.qb = p.qb ∧ t.din.homing = .unhomed ∧ t.din.phaseErrors = 0 ∧
    t.din.offerTick = 10 ∧ t.din.service = false ∧ t.din.power = .running ∧
    (∀ i : Fin 4, t.din.lines[i] =
      { function := .none, edge := .rise, debounce := 50, raw := p.lines[i], debounced := p.lines[i], stability := none,
        flag := false, lastRise := none, lastFall := none }) ∧
    t.wen.record = none ∧ t.wen.curveE = none ∧ t.wen.curveL = none ∧ (∀ k : Fin 8, t.wen.bands[k] = ⟨0, 0⟩) ∧
    t.wen.window = none ∧ t.wen.prevTheta = none ∧ t.wen.lastResult = none ∧ t.wen.tare = 0 ∧
    t.wen.tareArmed = false ∧ t.wen.latest = none ∧ t.wen.calibration = none ∧
    t.cyt = { state := .idle, pending := none, marker := false, start := none, lastCycle := 0, tipArmed := false } ∧
    t.lac.load = { number := 1, material := 0, target := 0, tolerance := 0, buckets := [], total := 0, unweighed := 0,
                   openTime := 0, incomplete := false, overload := false, alerted := false } ∧
    t.lac.completed = [] ∧ (∀ k : Fin 16, t.lac.materials[k] = 0) ∧ t.lac.nextMaterial = none ∧ t.lac.target = 0 ∧
    t.lac.tolerance = 0 ∧ (∀ k : Fin 16, t.lac.totals.materials[k] = ⟨0, 0, 0, 0⟩) ∧ t.lac.totals.cycles = 0 ∧
    t.lac.totals.returned = 0 ∧ t.lac.totals.tarePasses = 0 ∧ t.lac.totals.shiftStart = 0 ∧
    (∀ ch, t.cport.chan ch = ⟨[], false, false⟩) ∧
    t.cport.toggleG = false ∧ t.cport.toggleE = false ∧ t.cport.pendingG = none ∧ t.cport.pendingE = none ∧
    t.cport.carrying = none ∧ t.cport.tx = ⟨0, 0, none⟩ ∧ t.cport.budget = 0 ∧ t.cport.gap = false ∧
    t.cport.gauge = none ∧ t.mport = ⟨[], false, ⟨0, 0, none⟩⟩

/-- The state right after reset meets every invariant that the statements below keep. -/
def Obligations.ResetMeetsEveryInvariant : Prop :=
  State.reset.PortsSound ∧ State.reset.ModesSound ∧ State.reset.ReadySound ∧ State.reset.SlotsSound ∧
  State.reset.RolesUnique ∧ State.reset.WeighingSound ∧ State.reset.LoadsSound ∧ State.reset.mgt.Sound ∧
  State.reset.ParkedQuiet ∧ State.reset.HoldingSound

/-- From R207, R182, R180, R177, R143, R140, R59, R40, R200: a warm restart taken in any state ends the work in flight,
flushes the queues, clears the channel marks, the toggles, the gap flag and the latest sample, sets every slot anew and
restarts the gauge timer; it keeps the tables, the curves, the tare, the loads, the totals, the inputs, the alert flags,
the mask and the node. The NOTICE of a change of mode and the response are the first frames in their queues. -/
def Obligations.RestartKeepsLoadsAndTables : Prop :=
  ∀ (p : Port) (tag : Byte) (s : State), s.hasRoom p = true → ∃ t, exec (.restart p tag) s = .next t ∧
    t.mgt = { s.mgt with mode := .config, deferred := none, assembly := none } ∧
    t.time = s.time ∧ t.din = s.din ∧ t.lac = s.lac ∧
    t.fcl.fat = s.fcl.fat ∧ t.fcl.zones = s.fcl.zones ∧ t.fcl.standard = s.fcl.standard ∧
    (∀ i : Fin 48, t.fcl.held[i] = none ∧ t.fcl.timers[i] = none) ∧
    t.sig.sxt = s.sig.sxt ∧ t.sig.omega = none ∧ t.sig.prevBoom = none ∧
    (∀ r, (t.sig.slot r).source = sourceOf s.sig.sxt s.wen.record r ∧ (t.sig.slot r).value = none ∧
      (t.sig.slot r).state = if sourceOf s.sig.sxt s.wen.record r = .none then .unmapped else .awaiting) ∧
    t.wen.record = s.wen.record ∧ t.wen.curveE = s.wen.curveE ∧ t.wen.curveL = s.wen.curveL ∧
    t.wen.bands = s.wen.bands ∧ t.wen.tare = s.wen.tare ∧ t.wen.window = none ∧ t.wen.calibration = none ∧
    t.wen.tareArmed = false ∧ t.wen.prevTheta = none ∧
    (s.wen.window = none → t.wen.lastResult = s.wen.lastResult) ∧
    (∀ w, s.wen.window = some w → ∃ r, t.wen.lastResult = some r ∧ r.ending = .mode ∧ r.reason = some .mode) ∧
    t.cyt = { state := .idle, pending := none, marker := false, start := none, lastCycle := s.cyt.lastCycle,
              tipArmed := false } ∧
    t.cport.g.queue = [] ∧ t.cport.p.queue = [] ∧ t.cport.c.queue = [] ∧
    t.cport.carrying = none ∧ t.cport.budget = 0 ∧ t.cport.tx = ⟨0, 0, none⟩ ∧
    t.cport.e.queue.length = (if s.mgt.mode = .config then 0 else 1) ∧
    (p = .cab → t.cport.m.queue = [responseFrame s.mgt.node 0x35 tag .ok []] ∧ t.mport.queue = []) ∧
    (p = .machine → t.cport.m.queue = [] ∧ t.mport.queue = [responseFrame s.mgt.node 0x35 tag .ok []]) ∧
    (∀ r, t.sig.slot r = slotOfSource s.sig.sxt s.din.power s.time (sourceOf s.sig.sxt s.wen.record r)) ∧
    t.wen.latest = none ∧
    let answer := responseFrame s.mgt.node 0x35 tag .ok []
    t.mport = ⟨if p = .machine then [answer] else [], false, ⟨0, 0, none⟩⟩ ∧
    t.cport =
      { g := ⟨[], false, false⟩, p := ⟨[], false, false⟩, c := ⟨[], false, false⟩,
        m := ⟨if p = .cab then [answer] else [], false, false⟩,
        e := ⟨if s.mgt.mode = .config then []
          else [s.displayFrame 6 [(2, 0), (2, 0), (2, s.mgt.mode.code), (2, 3), (1, 0), (3, 0), (12, 0),
            (32, s.time.toNat)]], false, false⟩,
        toggleG := false, toggleE := false, pendingG := none, pendingE := none, carrying := none, tx := ⟨0, 0, none⟩,
        budget := 0, gap := false,
        gauge := match s.wen.record with
          | none => none
          | some r =>
            if r.gaugePeriod = 0 ∨ s.din.power = .parked then none else some (Time.plus s.time r.gaugePeriod) }

/-! ### Invariants that every step keeps -/

/-- From R5, R159, R161, R169 to R171, R174, R175: no queue passes its capacity, the carried frame stays in its queue, a
BLOCKED channel holds at most it, and a SILENT port carries nothing. -/
def Obligations.PortsStaySound : Prop := ∀ s t : State, s.PortsSound → step s = .next t → t.PortsSound

/-- From R60, R81, R86, R102, R199, R200: the window, the calibration, the cycle, the deferred change and the armed tare
fit the mode and the power state. -/
def Obligations.ModesStaySound : Prop := ∀ s t : State, s.ModesSound → step s = .next t → t.ModesSound

/-- From R85, R126, R201: the conditions under which RUN and CALIBRATE are entered stay true in them. -/
def Obligations.ReadinessHoldsThroughRun : Prop := ∀ s t : State, s.ReadySound → step s = .next t → t.ReadySound

/-- From R22, R23, R34 to R36, R40: source, state, value, range and expiries of every slot stay together. -/
def Obligations.SlotsStaySound : Prop := ∀ s t : State, s.SlotsSound → step s = .next t → t.SlotsSound

/-- From R41, R43, R48, R52, R60, R67, R82, R86, R92, R93: a PRESENT record is one that passed its checks, the tare stays
within its limits, every curve value within its range, every point sum within the range times the runs; window and
calibration stay sound, and a curve keeps one value per grid point. -/
def Obligations.WeighingStaysSound : Prop :=
  ∀ s t : State, s.ModesSound → s.WeighingSound → step s = .next t → t.WeighingSound

/-- From R124, R125, R129 to R132, R134: total, counts, flags, positions, settings and numbering of the loads. -/
def Obligations.LoadsStaySound : Prop := ∀ s t : State, s.LoadsSound → step s = .next t → t.LoadsSound

/-- From R17, R18, R20, R26, R189, R190, R202: the load assembly stays within its declared bytes and the spare alert
flags stay clear; no two enabled SXT entries come to name one role; a frame waits in a holding slot only behind a
running interval timer. -/
def Obligations.AssemblyRolesAndHoldingStaySound : Prop :=
  ∀ s t : State, step s = .next t →
    (s.mgt.Sound → t.mgt.Sound) ∧ (s.RolesUnique → t.RolesUnique) ∧ (s.HoldingSound → t.HoldingSound)

/-- From R20, R21, R100, R154, R177, R179: a parked part has no window, no gauge timer, no waiting frame in FCL and
nothing new in G and P. -/
def Obligations.ParkedStaysQuiet : Prop := ∀ s t : State, s.ParkedQuiet → step s = .next t → t.ParkedQuiet

/-! ### Rules over all commands -/

/-- From R188, R203, R205: the tables, the line settings, the node and the notice mask change only by the rows that
`configures` lists, or by an arrival that carries a request; outside CALIBRATE, whose completion writes one (R98), so do
the curves, but that nothing else writes them. -/
def Obligations.TablesAndNodeChangeByCommand : Prop :=
  ∀ (c : Instr) (s t : State), exec c s = .next t → configures c = false → carriesRequest s c = false →
    t.fcl.fat = s.fcl.fat ∧ t.fcl.zones = s.fcl.zones ∧ t.fcl.standard = s.fcl.standard ∧ t.sig.sxt = s.sig.sxt ∧
    t.wen.record = s.wen.record ∧ t.wen.bands = s.wen.bands ∧ t.lac.materials = s.lac.materials ∧
    (∀ i : Fin 4, t.din.lines[i].function = s.din.lines[i].function ∧ t.din.lines[i].edge = s.din.lines[i].edge ∧
      t.din.lines[i].debounce = s.din.lines[i].debounce) ∧
    t.mgt.node = s.mgt.node ∧ t.mgt.mask = s.mgt.mask ∧
    (s.mgt.mode ≠ .calibrate → t.wen.curveE = s.wen.curveE ∧ t.wen.curveL = s.wen.curveL)

/-- From R175, R176: the capture budget never increases but by SET_CAPTURE or a reset, as its row or carried by an
arrival, and 65,535 does not change. -/
def Obligations.BudgetNeverIncreases : Prop :=
  ∀ (c : Instr) (s t : State), exec c s = .next t → setsBudget c = false → carriesRequest s c = false →
    t.cport.budget ≤ s.cport.budget ∧ (s.cport.budget = 65535 → t.cport.budget = 65535)

/-! ### Requests and responses -/

/-- From R183, R209, R211: the bytes of a request, laid out with each argument at its offset, name the row they were
made from. -/
def Obligations.RequestBytesDecode : Prop :=
  ∀ (i : Instr) (p : Port) (bytes : List Byte), i.wellFormed = true → encodeRequest i = some (p, bytes) →
    decodeRequest p bytes = some i

/-- From R3, R167, R183, R187, R211: a request frame for this node, taken on the cab port, or on the machine port while
SERVICE is active, does exactly what its row does; a CHANNEL request with an unknown action is answered BAD_ARG and does
nothing else; a cab arrival that is no request does nothing. -/
def Obligations.RequestFrameActsAsItsRow : Prop :=
  (∀ (i : Instr) (bytes : List Byte) (s : State), i.wellFormed = true → encodeRequest i = some (.cab, bytes) →
    ∃ t, exec (.cabArrival (dataFrame (0x0C7E0000#29 + s.mgt.node.setWidth 29) bytes)) s = .next t ∧
      exec i s = .next t) ∧
  (∀ (i : Instr) (bytes : List Byte) (s : State), i.wellFormed = true → encodeRequest i = some (.machine, bytes) →
    s.din.service = true →
    ∃ t, exec (.machineArrival ⟨dataFrame (0x0C7E0000#29 + s.mgt.node.setWidth 29) bytes, s.time⟩) s = .next t ∧
      exec i s = .next t) ∧
  (∀ (tag channel action b4 b5 b6 b7 : Byte) (t : Time) (s : State), 6 ≤ action.toNat →
    let f := dataFrame (0x0C7E0000#29 + s.mgt.node.setWidth 29) [0x30, tag, channel, action, b4, b5, b6, b7]
    (s.hasRoom .cab = true → exec (.cabArrival f) s = .next (s.respond .cab 0x30 tag .badArg [])) ∧
    (s.hasRoom .machine = true → s.din.service = true →
      exec (.machineArrival ⟨f, t⟩) s = .next (s.respond .machine 0x30 tag .badArg []))) ∧
  ∀ (f : Frame) (s : State),
    (∀ bytes, f ≠ dataFrame (0x0C7E0000#29 + s.mgt.node.setWidth 29) bytes) → exec (.cabArrival f) s = .next s

/-- From R6, R163, R165, R202, R212: a request that finds its port's response queue full latches MGMT_OVERRUN and, with
the mask bit set, offers E the ALERT frame with the port as detail; nothing else changes, but that a full E latches
EVENT_LOST. A request carried by an arrival does the same, with the arrival's time. -/
def Obligations.FullResponseQueueDiscardsRequest : Prop :=
  let overrun := fun (p : Port) (t : Time) (s : State) =>
    let latched : State := { s with mgt := { s.mgt with alerts := s.mgt.alerts ||| 0x0400 } }
    let alert := dataFrame (0x0C7A0400#29 + s.mgt.node.setWidth 29)
      ([0xFA, BitVec.ofNat 8 (portCode p), 0] ++ leBytes 4 t.toNat ++ [0])
    if s.mgt.mask.getLsbD 10 = false ∨ s.cport.e.blocked = true then latched
    else if s.cport.e.queue.length < 16 then
      { latched with cport := { s.cport with e := { s.cport.e with queue := s.cport.e.queue ++ [alert] } } }
    else { s with mgt := { s.mgt with alerts := s.mgt.alerts ||| 0x0420 } }
  (∀ (i : Instr) (p : Port) (bytes : List Byte) (s : State), encodeRequest i = some (p, bytes) → s.hasRoom p = false →
    exec i s = .next (overrun p s.time s)) ∧
  ∀ (bytes : List Byte) (t : Time) (s : State),
    let f := dataFrame (0x0C7E0000#29 + s.mgt.node.setWidth 29) bytes
    (s.hasRoom .cab = false → exec (.cabArrival f) s = .next (overrun .cab s.time s)) ∧
    (s.hasRoom .machine = false → s.din.service = true →
      exec (.machineArrival ⟨f, t⟩) s = .next (overrun .machine t s))

/-- From R165, R183, R211: a response carries the command, the tag, the status code and five result bytes under the
node's response identifier; it joins the queue of its request's port as the newest, and a BLOCKED M discards it. A
request that names no command is answered UNKNOWN, one of fewer than 8 bytes BAD_ARG with the bytes it has, and neither
does anything else. -/
def Obligations.RequestsAreAnswered : Prop :=
  (∀ (code tag : Byte) (status : Status) (r0 r1 r2 r3 r4 : Byte) (s : State),
    let f : Frame := dataFrame (0x0C7F0000#29 + s.mgt.node.setWidth 29)
      [code, tag, BitVec.ofNat 8 status.code, r0, r1, r2, r3, r4]
    s.respond .machine code tag status [r0, r1, r2, r3, r4] =
      { s with mport := { s.mport with queue := s.mport.queue ++ [f] } } ∧
    s.respond .cab code tag status [r0, r1, r2, r3, r4] =
      if s.cport.m.blocked then s
      else { s with cport := { s.cport with m := { s.cport.m with queue := s.cport.m.queue ++ [f] } } }) ∧
  ∀ (p : Port) (code tag : Byte) (bytes : List Byte) (s : State), s.hasRoom p = true →
    exec (.unknownCommand p code tag) s = .next (s.respond p code tag .unknown []) ∧
    exec (.shortRequest p bytes) s = .next (s.respond p (bytes.getD 0 0) (bytes.getD 1 0) .badArg [])

/-! ### Machine frames -/

/-- From R7, R9 to R12, R164: a frame's entry is the lowest-indexed enabled entry whose masked identifier equals the
frame's. With SERVICE inactive, a remote frame and any frame while PARKED are dropped; an unmatched extended frame
follows its zone, a standard one the standard-frame policy. A frame passed on is discarded by a BLOCKED P, joins a P
with room as the newest, and pushes out of a full P the oldest frame that the transmitter does not carry. -/
def Obligations.FrameFollowsItsEntryOrPolicy : Prop :=
  (∀ (c : Fcl) (id : BitVec 29),
    let admits := fun k : Fin 48 =>
      c.fat[k].enabled = true ∧ id &&& c.fat[k].mask = c.fat[k].ident &&& c.fat[k].mask
    (∀ i : Fin 48, c.matchEntry id = some i ↔ admits i ∧ ∀ j : Fin 48, j < i → ¬ admits j) ∧
    (c.matchEntry id = none ↔ ∀ i : Fin 48, ¬ admits i)) ∧
  ∀ (a : Arrival) (s : State), s.din.service = false →
    (s.din.power = .parked → exec (.machineArrival a) s = .next s) ∧
    (∀ n, a.frame.body = .remote n → exec (.machineArrival a) s = .next s) ∧
    ∀ bytes, a.frame.body = .data bytes → s.din.power = .running →
      let q := s.cport.p.queue
      let kept := if q.length < 32 then q else if s.cport.carrying = some .p then q.take 1 ++ q.drop 2 else q.drop 1
      let passed : State :=
        if s.cport.p.blocked then s
        else { s with cport := { s.cport with p := { s.cport.p with queue := kept ++ [a.frame] } } }
      (∀ id, a.frame.id = .standard id →
        exec (.machineArrival a) s = .next (if s.fcl.standard = .forward then passed else s)) ∧
      (∀ (id : BitVec 29) (z : Fin 8), a.frame.id = .extended id → s.fcl.matchEntry id = none →
        z.val = id.toNat / 67108864 →
        exec (.machineArrival a) s = .next (if s.fcl.zones[z] = .forward then passed else s)) ∧
      s.offerP a.frame = passed

/-- From R16 to R18: a frame whose entry only forwards is offered to P at once when the entry's interval is 0 or its
timer IDLE, and the timer then starts; while the timer runs the frame takes the holding slot. When an interval timer is
reached, a held frame is offered to P and the timer restarts on the interval; an empty slot leaves the timer IDLE. An
open P with room takes the offered frame as the newest. -/
def Obligations.ForwardingFollowsTheTimer : Prop :=
  (∀ (a : Arrival) (id : BitVec 29) (bytes : List Byte) (i : Fin 48) (s : State),
    s.din.service = false → s.din.power = .running → a.frame = dataFrame id bytes → s.fcl.matchEntry id = some i →
    s.fcl.fat[i].forward = true → s.fcl.fat[i].extract = false → s.fcl.fat[i].capture = false →
    ∃ t, exec (.machineArrival a) s = .next t ∧
      (s.fcl.fat[i].interval = 0 → t = s.offerP a.frame) ∧
      (s.fcl.fat[i].interval ≠ 0 → s.fcl.timers[i] = none →
        t.cport = (s.offerP a.frame).cport ∧ t.fcl.held[i] = none ∧
        t.fcl.timers[i] = some (Time.plus s.time s.fcl.fat[i].interval)) ∧
      (s.fcl.fat[i].interval = 0 ∨ s.fcl.timers[i] = none → s.cport.p.blocked = false → s.cport.p.queue.length < 32 →
        t.cport.p.queue = s.cport.p.queue ++ [a.frame]) ∧
      (∀ x, s.fcl.fat[i].interval ≠ 0 → s.fcl.timers[i] = some x →
        t.cport = s.cport ∧ t.fcl.held[i] = some a.frame ∧ t.fcl.timers[i] = some x) ∧
      (∀ j : Fin 48, j ≠ i → t.fcl.held[j] = s.fcl.held[j] ∧ t.fcl.timers[j] = s.fcl.timers[j]) ∧
      t.fcl.fat = s.fcl.fat ∧ t.sig = s.sig ∧ t.wen = s.wen ∧ t.cyt = s.cyt ∧ t.lac = s.lac ∧ t.mgt = s.mgt ∧
      t.din = s.din ∧ t.mport = s.mport) ∧
  ∀ (i : Fin 48) (x : Time) (s : State), s.fcl.timers[i] = some x → s.reached x = true →
    ∃ t, exec (.intervalTimerExpiry i) s = .next t ∧ t.fcl.held[i] = none ∧
      (s.fcl.held[i] = none → t.fcl.timers[i] = none ∧ t.cport = s.cport) ∧
      (∀ f, s.fcl.held[i] = some f → t.fcl.timers[i] = some (Time.plus x s.fcl.fat[i].interval) ∧
        t.cport = (s.offerP f).cport ∧
        (s.din.power = .running → s.cport.p.blocked = false → s.cport.p.queue.length < 32 →
          t.cport.p.queue = s.cport.p.queue ++ [f])) ∧
      (∀ j : Fin 48, j ≠ i → t.fcl.held[j] = s.fcl.held[j] ∧ t.fcl.timers[j] = s.fcl.timers[j]) ∧
      t.fcl.fat = s.fcl.fat ∧ t.sig = s.sig ∧ t.din = s.din ∧ t.wen = s.wen ∧ t.cyt = s.cyt ∧ t.lac = s.lac ∧
      t.mgt = s.mgt ∧ t.mport = s.mport

/-- From R14, R29 to R35, R61, R88, R103, R114, R199: a matched frame that is not copied is handed to its references, 1
before 2, and then forwarded. A hand-off does nothing for a disabled entry, for BOOM's entry while the record selects
the encoder, and while PARKED; a field past the data sets SHORT, an implausible value IMPLAUSIBLE, and any other is
accepted, clamped. Then a HEAD or BOOM value makes its test point, its calibration point and its evaluation, a TILT
value its dump test, and a deferred change follows. -/
def Obligations.ArrivalIsExtracted : Prop :=
  (∀ (a : Arrival) (id : BitVec 29) (bytes : List Byte) (i : Fin 48) (s : State),
    s.din.power = .running → a.frame = dataFrame id bytes →
    s.din.service = false ∨ id ≠ 0x0C7E0000#29 + s.mgt.node.setWidth 29 → s.fcl.matchEntry id = some i →
    let e := s.fcl.fat[i]
    e.capture = false ∨ s.cport.budget = 0 ∨ s.cport.c.blocked = true →
    exec (.machineArrival a) s = .next
      ((if e.extract then (s.handOffRef bytes a.time e.ref1).handOffRef bytes a.time e.ref2 else s).forwardFrame
        i e a.frame)) ∧
  (∀ (bytes : List Byte) (t : Time) (s : State), s.handOffRef bytes t none = s) ∧
  (∀ (bytes : List Byte) (t : Time) (k : Fin 16) (s : State),
    let e := s.sig.sxt[k]
    let inert := e.role = .boom ∧ ∃ r, s.wen.record = some r ∧ r.boomSource = .encoder
    let v := rdiv (rawCount (decide (e.signedness = .signed)) e.length (fieldNat e.order e.start e.length bytes) *
      e.multiplier) e.divisor + e.offset
    (e.enabled = false ∨ inert ∨ s.din.power = .parked → s.handOffRef bytes t (some k) = s) ∧
    (e.enabled = true → ¬ inert → s.din.power = .running →
      (fieldPresent e.order e.start e.length bytes.length = false → s.handOffRef bytes t (some k) =
        { s with sig := s.sig.setSlot e.role { s.sig.slot e.role with short := true } }) ∧
      (fieldPresent e.order e.start e.length bytes.length = true →
        (v < e.plausMin ∨ e.plausMax < v → s.handOffRef bytes t (some k) =
          { s with sig := s.sig.setSlot e.role { s.sig.slot e.role with implausible := true } }) ∧
        (e.plausMin ≤ v → v ≤ e.plausMax →
          s.handOffRef bytes t (some k) = s.takeValue e.role v t (some e.timeout))))) ∧
  ∀ (r : Role) (v : Int) (t : Time) (timeout : Option Nat) (s : State),
    let w := max (roleMin r) (min (roleMax r) v)
    let a := s.acceptValue r v t timeout
    a.sig.slot r =
      { s.sig.slot r with state := .valid, value := some w, stamp := some t, fresh := timeout.map (Time.plus t),
                          loss := timeout.map fun d => Time.plus t (4 * d), implausible := false, short := false,
                          clamped := decide (w ≠ v) } ∧
    (∀ q, q ≠ r → a.sig.slot q = s.sig.slot q) ∧ a.sig.sxt = s.sig.sxt ∧
    (r ≠ .boom → a.sig.omega = s.sig.omega ∧ a.sig.prevBoom = s.sig.prevBoom) ∧ a = { s with sig := a.sig } ∧
    s.takeValue r v t timeout = (match r with
      | .head => (((a.testPoint true t).calPoint true t).evaluate t).applyDeferred t
      | .boom => (((a.testPoint false t).calPoint false t).evaluate t).applyDeferred t
      | .tilt => (a.tipTest w t).applyDeferred t
      | .rod => a
      | .pitch => a)

/-- From R15, R163, R166, R176, R202: a matched frame whose entry captures is copied while the budget is nonzero and C
not BLOCKED, after its extraction; where both are due and the copy would use up the budget, the order is a free value
(log entry 3). C queues a copy at the cost of the budget, which at 0 holds C and offers the capture-done NOTICE, and
full C discards it with the gap flag; that NOTICE carries the timebase value (log entry 17). E queues an offered frame,
discards it while BLOCKED, and full latches EVENT_LOST and offers nothing for it; a raise of any other alert latches its
flag and, with its mask bit, offers an ALERT frame. -/
def Obligations.CopiesFillChannelC : Prop :=
  (∀ (a : Arrival) (id : BitVec 29) (bytes : List Byte) (i : Fin 48) (s : State),
    s.din.power = .running → a.frame = dataFrame id bytes →
    s.din.service = false ∨ id ≠ 0x0C7E0000#29 + s.mgt.node.setWidth 29 → s.fcl.matchEntry id = some i →
    let e := s.fcl.fat[i]
    let hand := fun q : State => (q.handOffRef bytes a.time e.ref1).handOffRef bytes a.time e.ref2
    e.capture = true → s.cport.budget ≠ 0 → s.cport.c.blocked = false →
    (e.extract = false → exec (.machineArrival a) s = .next ((s.offerC a.frame).forwardFrame i e a.frame)) ∧
    (e.extract = true → s.cport.budget ≠ 1 →
      exec (.machineArrival a) s = .next (((hand s).offerC a.frame).forwardFrame i e a.frame)) ∧
    (e.extract = true → s.cport.budget = 1 →
      let s' : State := { s with freeCount := s.freeCount + 1 }
      exec (.machineArrival a) s = .next ((hand (s'.offerC a.frame)).forwardFrame i e a.frame) ∨
        exec (.machineArrival a) s = .next (((hand s').offerC a.frame).forwardFrame i e a.frame))) ∧
  (∀ (f : Frame) (s : State),
    (s.cport.c.blocked = true → s.offerC f = s) ∧
    (s.cport.c.blocked = false → 16 ≤ s.cport.c.queue.length →
      s.offerC f = { s with cport := { s.cport with gap := true } }) ∧
    (s.cport.c.blocked = false → s.cport.c.queue.length < 16 →
      let copied := fun (b : Nat) => { s.cport with c := { s.cport.c with queue := s.cport.c.queue ++ [f] }, budget := b }
      (s.cport.budget = 65535 → s.offerC f = { s with cport := copied 65535 }) ∧
      (2 ≤ s.cport.budget → s.cport.budget < 65535 → s.offerC f = { s with cport := copied (s.cport.budget - 1) }) ∧
      (s.cport.budget = 1 →
        let held := { copied 0 with c := { (copied 0).c with held := true }, gap := false }
        s.offerC f = ({ s with cport := held } : State).offerE
          (s.displayFrame 6 [(2, 2), (10, 0), (1, if s.cport.gap then 1 else 0), (11, 0), (32, s.time.toNat)])))) ∧
  (∀ (f : Frame) (s : State),
    (s.cport.e.blocked = true → s.offerE f = s) ∧
    (s.cport.e.blocked = false → s.cport.e.queue.length < 16 → s.offerE f =
      { s with cport := { s.cport with e := { s.cport.e with queue := s.cport.e.queue ++ [f] } } }) ∧
    (s.cport.e.blocked = false → 16 ≤ s.cport.e.queue.length →
      s.offerE f = { s with mgt := { s.mgt with alerts := s.mgt.alerts ||| 0x0020 } })) ∧
  ∀ (a : Alert) (detail : Nat) (t : Time) (s : State), a ≠ .eventLost →
    let latched : State := { s with mgt := { s.mgt with alerts := s.mgt.alerts ||| 1#16 <<< a.code } }
    s.raiseAlert a detail t =
      if s.mgt.mask.getLsbD a.code then
        latched.offerE (s.displayFrame 4 [(4, a.code), (4, 15), (16, detail), (32, t.toNat)])
      else latched

/-! ### Signals -/

/-- From R30: a LITTLE field is a slice of the frame word, whose bit k is bit (k mod 8) of byte floor(k / 8). A BIG
field that fits is a slice of the frame read with byte 0 most significant: its most significant bit is frame bit
`start`, and bit 0 of a byte is followed by bit 7 of the next byte. A field is present when its highest byte is among
the data bytes, and fits when that byte is 7 or lower. -/
def Obligations.FieldIsABitSlice : Prop :=
  (∀ (start length : Nat) (bytes : List Byte),
    fieldNat .little start length bytes = leNat bytes / 2 ^ start % 2 ^ length) ∧
  (∀ (start length : Nat) (bytes : List Byte), 1 ≤ length → fieldFits .big start length = true → bytes.length = 8 →
    fieldNat .big start length bytes =
      leNat bytes.reverse / 2 ^ (8 * (7 - start / 8) + start % 8 + 1 - length) % 2 ^ length) ∧
  ∀ (order : ByteOrder) (start length n : Nat), 1 ≤ length →
    let highest := match order with
      | .little => (start + length - 1) / 8
      | .big => start / 8 + (length + 6 - start % 8) / 8
    (fieldPresent order start length n = true ↔ highest < n) ∧ (fieldFits order start length = true ↔ highest < 8)

/-- R31: UNSIGNED is the field's value, SIGNED its two's complement value of `length` bits, with their ranges. -/
def Obligations.RawCountIsTwosComplement : Prop :=
  ∀ length n : Nat, 1 ≤ length → length ≤ 32 → n < 2 ^ length →
    rawCount false length n = (n : Int) ∧ rawCount false length n ≤ 2 ^ length - 1 ∧
    rawCount true length n = (BitVec.ofNat length n).toInt ∧
    -(2 ^ (length - 1)) ≤ rawCount true length n ∧ rawCount true length n ≤ 2 ^ (length - 1) - 1

/-- From R22, R36, R71: a freshness expiry makes a VALID slot STALE with its value held; a loss expiry makes a slot LOST
with its value kept, latches SIGNAL_LOST, and for HEAD and BOOM leaves no OPEN window. Every other slot is unchanged. -/
def Obligations.ExpiriesAgeTheSlot : Prop :=
  (∀ (r : Role) (x : Time) (s : State), (s.sig.slot r).fresh = some x → s.reached x = true →
    (s.sig.slot r).state = .valid →
    exec (.freshnessExpiry r) s =
      .next { s with sig := s.sig.setSlot r { s.sig.slot r with state := .stale, fresh := none } }) ∧
  ∀ (r : Role) (x : Time) (s : State), (s.sig.slot r).loss = some x → s.reached x = true →
    ∃ t, exec (.lossExpiry r) s = .next t ∧
      t.sig = s.sig.setSlot r { s.sig.slot r with state := .lost, fresh := none, loss := none } ∧
      t.mgt.alerts.getLsbD 0 = true ∧
      (r = .head ∨ r = .boom → t.wen.window = none) ∧
      (r ≠ .head → r ≠ .boom → t.wen = s.wen ∧ t.cyt = s.cyt ∧ t.mgt.mode = s.mgt.mode) ∧
      t.fcl = s.fcl ∧ t.din = s.din ∧ t.lac = s.lac ∧ t.mport = s.mport ∧ t.time = s.time

/-- From R34, R38: an accepted BOOM value is clamped and becomes VALID with its time; ω is kept at an equal time, is the
rounded rate up to 200 ms, and is invalid past 200 ms or without a previous value. The other slots are unchanged. -/
def Obligations.BoomSpeedFollowsAcceptedValues : Prop :=
  ∀ (v : Int) (t : Time) (timeout : Option Nat) (s : State),
    let w := max (-18000) (min 18000 v)
    let g := (s.acceptValue .boom v t timeout).sig
    g.boom.state = .valid ∧ g.boom.value = some w ∧ g.boom.stamp = some t ∧
    (g.boom.clamped = true ↔ w ≠ v) ∧ g.prevBoom = some (w, t) ∧
    (s.sig.prevBoom = none → g.omega = none) ∧
    (∀ (v0 : Int) (t0 : Time), s.sig.prevBoom = some (v0, t0) →
      (t = t0 → g.omega = s.sig.omega) ∧
      (t ≠ t0 → (t - t0).toNat ≤ 200 → g.omega = some (rdiv ((w - v0) * 1000) (t - t0).toNat)) ∧
      (200 < (t - t0).toNat → g.omega = none)) ∧
    g.head = s.sig.head ∧ g.rod = s.sig.rod ∧ g.pitch = s.sig.pitch ∧ g.tilt = s.sig.tilt ∧ g.sxt = s.sig.sxt

/-! ### Direct inputs -/

/-- From R35, R150, R151, R202, R212: a step of the phases moves the counter by one; both phases changing is an error
that keeps it, unhomes a HOMED encoder and then raises PHASE_ERROR with the counter saturated as detail; an index pulse
homes an UNHOMED encoder at 0 and is ignored by a HOMED one. -/
def Obligations.PhasesAndIndexMoveTheEncoder : Prop :=
  ∀ (qa qb : Bool) (s : State),
    let old := phasePlace s.din.qa s.din.qb
    let new := phasePlace qa qb
    (new = (old + 1) % 4 → exec (.phaseChange qa qb) s =
      .next { s with din := { s.din with qa := qa, qb := qb, counter := s.din.counter + 1 } }) ∧
    (new = (old + 3) % 4 → exec (.phaseChange qa qb) s =
      .next { s with din := { s.din with qa := qa, qb := qb, counter := s.din.counter - 1 } }) ∧
    (new = (old + 2) % 4 → ∃ t, exec (.phaseChange qa qb) s = .next t ∧
      t.din = { s.din with qa := qa, qb := qb, phaseErrors := min 65535 (s.din.phaseErrors + 1),
                           homing := .unhomed } ∧
      (s.din.homing = .unhomed → t.mgt = s.mgt ∧ t.sig = s.sig ∧ t.cport = s.cport) ∧
      (s.din.homing = .homed → t.mgt.alerts.getLsbD 1 = true) ∧
      (s.din.homing = .homed → s.sig.boom.source = .encoder →
        t.sig.boom.state = .awaiting ∧ t.sig.boom.value = none ∧ t.sig.omega = none ∧ t.sig.prevBoom = none) ∧
      (s.sig.boom.source ≠ .encoder → t.sig = s.sig) ∧
      t.fcl = s.fcl ∧ t.wen = s.wen ∧ t.cyt = s.cyt ∧ t.lac = s.lac ∧ t.mport = s.mport ∧
      let q : State := { s with din := t.din, sig := t.sig }
      let detail := max (-32767) (min 32767 s.din.counter.toInt)
      (s.din.homing = .unhomed → t = q) ∧
      (s.din.homing = .homed → t = q.afterAlert 1 15 (detail % 65536).toNat s.time)) ∧
    (s.din.homing = .unhomed → exec .indexPulse s =
      .next { s with din := { s.din with counter := 0, homing := .homed } }) ∧
    (s.din.homing = .homed → exec .indexPulse s = .next s)

/-- From R34, R35, R152: at the offer tick's expiry the tick restarts 10 ms on; a HOMED encoder selected by the record,
while RUNNING, gives BOOM the value of the counter with the expiry as its time, and its readers do their work; otherwise
nothing else happens. -/
def Obligations.OfferTickOffersTheCount : Prop :=
  ∀ s : State, s.reached s.din.offerTick = true →
    let moved : State := { s with din := { s.din with offerTick := s.din.offerTick + 10 } }
    (s.din.homing = .unhomed ∨ s.din.power = .parked ∨ s.wen.record = none ∨
        (∃ r, s.wen.record = some r ∧ r.boomSource = .frame) →
      exec .encoderOfferTick s = .next moved) ∧
    (∀ r, s.wen.record = some r → r.boomSource = .encoder → s.din.homing = .homed → s.din.power = .running →
      let v := r.indexAngle + rdiv (s.din.counter.toInt * r.encNum) r.encDen
      exec .encoderOfferTick s = .next (moved.takeValue .boom v s.din.offerTick none) ∧
      ∃ t, exec .encoderOfferTick s = .next t ∧ t.din = moved.din ∧
        t.sig.boom.state = .valid ∧ t.sig.boom.stamp = some s.din.offerTick ∧
        t.sig.boom.value = some (max (-18000) (min 18000 v)) ∧
        t.sig.boom.fresh = none ∧ t.sig.boom.loss = none)

/-- From R125, R131, R133 to R135, R142, R146 to R149, R153, R196, R212: a change of a line's raw level starts or moves
its stability expiry while the level differs from the debounced one, and cancels it when they agree. At the expiry the
debounced level becomes the raw level and an edge is made: its time is kept, the event flag is set when it matches the
function, and a matching edge is a dump event, arms tare, closes the truck (with its LOAD_CLOSED frame, and the wrap of
the load number) or cancels the last bucket (with OVERLOAD evaluated) in RUN, or settles the power state or SERVICE; an
edge of any other kind does nothing more. -/
def Obligations.LinesAreDebounced : Prop :=
  (∀ (i : Fin 4) (level : Bool) (s : State), s.din.lines[i].raw ≠ level →
    ∃ t, exec (.lineLevelChange i level) s = .next t ∧
      t.din.lines[i] = { s.din.lines[i] with
        raw := level,
        stability := if level = s.din.lines[i].debounced then none
          else some (Time.plus s.time s.din.lines[i].debounce) } ∧
      (∀ j : Fin 4, j ≠ i → t.din.lines[j] = s.din.lines[j]) ∧
      t = { s with din := { s.din with lines := t.din.lines } }) ∧
  ∀ (i : Fin 4) (x : Time) (s : State), s.din.lines[i].stability = some x → s.reached x = true →
    s.din.lines[i].raw ≠ s.din.lines[i].debounced →
    let l := s.din.lines[i]
    let hit : Bool := decide (l.function = .key) || decide (l.function = .service) || decide (l.edge = .both) ||
      (if l.raw then decide (l.edge = .rise) else decide (l.edge = .fall))
    let s1 : State := { s with din := { s.din with lines := s.din.lines.set i { l with
      debounced := l.raw, stability := none, flag := l.flag || hit,
      lastRise := if l.raw then some x else l.lastRise, lastFall := if l.raw then l.lastFall else some x } } }
    let keyOff := ∃ j : Fin 4, s1.din.lines[j].function = .key ∧ s1.din.lines[j].debounced = false
    let service := ∃ j : Fin 4, s1.din.lines[j].function = .service ∧ s1.din.lines[j].debounced = true
    ∃ t, exec (.stabilityExpiry i) s = .next t ∧
      (l.function = .none ∨ hit = false → t = s1) ∧
      (l.function = .tip → hit = true → t = (s1.dumpEvent x).applyDeferred x) ∧
      (l.function = .tare → hit = true →
        t = if s.mgt.mode = .run then { s1 with wen := { s.wen with tareArmed := true } } else s1) ∧
      (l.function = .nextTruck → hit = true →
        (s.mgt.mode ≠ .run ∨ s.lac.load.buckets = [] → t = s1) ∧
        (s.mgt.mode = .run → s.lac.load.buckets ≠ [] → t = s1.closeLoadNow .operator x ∧
          t.lac.load.buckets = [] ∧ t.lac.load.openTime = x ∧
          (s.lac.load.number ≠ 4294967295 → t.lac.completed.getLast? = some ⟨s.lac.load, x, .operator⟩) ∧
          (s.lac.load.number = 4294967295 → t.lac.completed = [] ∧ t.lac.load.number = 1) ∧
          ∃ f, LoadClosedFrame s.mgt.node s.lac.load .operator f ∧ t = s1.afterClosing .operator x f)) ∧
      (l.function = .cancelLast → hit = true →
        (s.mgt.mode ≠ .run ∨ s.lac.load.buckets = [] → t = s1) ∧
        (s.mgt.mode = .run → s.lac.load.buckets ≠ [] → t =
          ({ s1 with lac := { s.lac with load := s.lac.load.withBuckets s.lac.load.buckets.dropLast } } :
            State).afterOverload x)) ∧
      (l.function = .key →
        (s.din.power = .running → keyOff → t = s1.park x) ∧ (s.din.power = .running → ¬ keyOff → t = s1) ∧
        (s.din.power = .parked → keyOff → t = s1) ∧ (s.din.power = .parked → ¬ keyOff → t = s1.wake x)) ∧
      (l.function = .service →
        (service → t = { s1 with din := { s1.din with service := true } }) ∧
        (¬ service → t.din = { s1.din with service := false } ∧ t = { s1 with din := t.din, mgt := t.mgt } ∧
          ((∃ a, s.mgt.assembly = some a ∧ a.owner = .machine) → s.din.service = true →
            t.mgt = { s.mgt with assembly := none }) ∧
          ((∀ a, s.mgt.assembly = some a → a.owner = .cab) ∨ s.din.service = false → t.mgt = s.mgt)))

/-- From R21, R40, R72, R82, R97, R100, R120, R121, R154, R155, R177, R179, R202, R212: parking empties FCL's slots and
timers and SIG's slots, ends an OPEN window PARKED and a run in RISING BROKEN, sets CYT aside, drains G and P but for a
carried frame and stops the gauge timer; of it E is offered the TARE_REFUSED ALERT of a tare pass and the CAL_PROGRESS
of a broken run, and no NOTICE; a deferred change follows. Waking offers the key-on NOTICE first, gives mapped slots
their loss expiry, makes the previous θ_eff absent, disarms the tip detector and starts the gauge timer. Nothing else
changes. -/
def Obligations.ParkingAndWaking : Prop :=
  (∀ (x : Time) (s : State), ∃ q : State, s.park x = q.applyDeferred x ∧
    q.din = { s.din with power := .parked } ∧
    (∀ i : Fin 48, q.fcl.held[i] = none ∧ q.fcl.timers[i] = none) ∧ q.fcl.fat = s.fcl.fat ∧
    q.fcl.zones = s.fcl.zones ∧ q.fcl.standard = s.fcl.standard ∧
    (∀ r, q.sig.slot r =
      { source := (s.sig.slot r).source, state := if (s.sig.slot r).source = .none then .unmapped else .awaiting,
        value := none, stamp := none, fresh := none, loss := none, implausible := false, short := false,
        clamped := false }) ∧
    q.sig.sxt = s.sig.sxt ∧ q.sig.omega = none ∧ q.sig.prevBoom = none ∧
    q.wen.window = none ∧ q.wen.latest = none ∧ q.wen.record = s.wen.record ∧ q.wen.curveE = s.wen.curveE ∧
    q.wen.curveL = s.wen.curveL ∧ q.wen.bands = s.wen.bands ∧ q.wen.tare = s.wen.tare ∧
    q.wen.prevTheta = s.wen.prevTheta ∧
    (s.wen.window = none → q.wen.lastResult = s.wen.lastResult ∧ q.wen.tareArmed = s.wen.tareArmed) ∧
    (s.wen.window.isSome = true → q.wen.tareArmed = false ∧
      (s.wen.tareArmed = true → q.mgt.alerts.getLsbD 8 = true) ∧
      ∃ z, q.wen.lastResult = some z ∧ z.ending = .parked ∧ z.reason = some .parked ∧ z.endTime = x) ∧
    (s.wen.calibration = none → q.wen.calibration = none) ∧
    (∀ c, s.wen.calibration = some c → ∃ sums broken,
      q.wen.calibration = some { c with sums := sums, run := .armed none, broken := broken } ∧
      (∀ start, c.run = .armed start → sums = c.sums ∧ broken = c.broken) ∧
      (∀ th f top values, c.run = .rising th f top values → broken = min 65535 (c.broken + 1))) ∧
    q.cyt = { state := .idle, pending := none, marker := false, start := none, lastCycle := s.cyt.lastCycle,
              tipArmed := false } ∧
    q.lac = s.lac ∧ q.mport = s.mport ∧ q.time = s.time ∧ q.mgt = { s.mgt with alerts := q.mgt.alerts } ∧
    (∀ ch, ch = .g ∨ ch = .p → q.cport.chan ch = { s.cport.chan ch with
      queue := if s.cport.carrying = some ch then (s.cport.chan ch).queue.take 1 else [] }) ∧
    q.cport.gauge = none ∧ q.cport = { s.cport with g := q.cport.g, e := q.cport.e, p := q.cport.p, gauge := none } ∧
    (s.wen.window = none → s.wen.calibration = none → q.cport.e = s.cport.e ∧ q.mgt = s.mgt) ∧
    let refused := if s.wen.window.isSome ∧ s.wen.tareArmed = true then s.afterAlert 8 15 3 x else s
    let broken := match s.wen.calibration with
      | none => refused
      | some c =>
        match c.run with
        | .armed _ => refused
        | .rising _ _ _ values => refused.afterOffer (s.displayFrame 5 [(1, c.target.code), (2, 1), (3, c.done + 1),
            (3, 4), (5, values.length), (3, 7), (7, 0), (32, x.toNat)])
    q.cport.e = broken.cport.e ∧ q.mgt = broken.mgt) ∧
  ∀ (x : Time) (s : State),
    let notified := s.offerE (s.displayFrame 6 [(2, 1), (22, 0), (32, x.toNat)])
    ∃ sig : Sig, s.wake x =
      { notified with
        din := { s.din with power := .running }, sig := sig, wen := { s.wen with prevTheta := none },
        cyt := { s.cyt with tipArmed := false },
        cport := { notified.cport with gauge := match s.wen.record with
          | some r => if r.gaugePeriod = 0 then none else some (Time.plus x r.gaugePeriod)
          | none => none } } ∧
      sig.sxt = s.sig.sxt ∧ sig.omega = s.sig.omega ∧ sig.prevBoom = s.sig.prevBoom ∧
      ∀ r, sig.slot r = match (s.sig.slot r).source with
        | .none => s.sig.slot r
        | .encoder => { s.sig.slot r with state := .awaiting, value := none, stamp := none, fresh := none, loss := none }
        | .sxt k => { s.sig.slot r with state := .awaiting, value := none, stamp := none, fresh := none,
                                        loss := some (Time.plus x (4 * s.sig.sxt[k].timeout)) }

/-! ### Weighing -/

/-- From R69, R74, R77: an OPEN window whose timeout is reached ends TIMEOUT at that time; the result is PARTIAL with at
least n_min stored samples and NOT_WEIGHED(FEW) with fewer, and becomes the last result. -/
def Obligations.WindowTimeoutEndsTheWindow : Prop :=
  ∀ (w : Window) (r : MachineRecord) (s : State), s.wen.window = some w → s.wen.record = some r →
    s.reached w.timeout = true →
    ∃ t x, exec .windowTimeout s = .next t ∧ t.wen.window = none ∧ t.wen.lastResult = some x ∧
      x.ending = .timeout ∧ x.endTime = w.timeout ∧ x.openTime = w.openTime ∧ x.n = w.samples.length ∧
      x.counts = w.counts ∧ x.kind = (if s.wen.tareArmed then .tarePass else .bucket) ∧
      (r.nMin ≤ w.samples.length → x.cls = .partialLift ∧ x.mean = some (trimmedMean w.masses r.trim)) ∧
      (w.samples.length < r.nMin → x.cls = .notWeighed ∧ x.reason = some .few ∧ x.mean = none ∧ x.mass = none) ∧
      t.fcl = s.fcl ∧ t.sig = s.sig ∧ t.din = s.din ∧ t.lac = s.lac ∧ t.mport = s.mport

/-- From R61, R62, R68: outside RUN or while PARKED a value makes no test point. At a test point a NONE window opens
when CYT is in LIFT and θ_eff crosses θ_lo upward, with everything at its opening value, and the opened window goes on
through the same point; a HEAD value's sample comes before the ending tests; at or above θ_hi the window ends CLOSED,
else the highest θ_eff follows and a drop of H below it ends the window REVERSED; the previous θ_eff becomes this one's.
-/
def Obligations.WindowOpensAndEndsAtTestPoints : Prop :=
  ∀ (isHead : Bool) (t : Time) (s : State),
    (s.mgt.mode ≠ .run ∨ s.din.power = .parked → s.testPoint isHead t = s) ∧
    ∀ r, s.mgt.mode = .run → s.din.power = .running → s.wen.record = some r →
      (s.testPoint isHead t).wen.prevTheta = s.thetaEff ∧
      (s.wen.window = none →
        (∀ prev th, s.wen.prevTheta = some prev → s.thetaEff = some th →
          ¬ (s.cyt.state = .lift ∧ prev < r.thetaLo ∧ r.thetaLo ≤ th)) →
        s.testPoint isHead t = { s with wen := { s.wen with prevTheta := s.thetaEff } }) ∧
      (∀ prev th, s.wen.window = none → s.wen.prevTheta = some prev → s.thetaEff = some th → s.cyt.state = .lift →
        prev < r.thetaLo → r.thetaLo ≤ th →
        let opened : Window :=
          { openTime := t, timeout := Time.plus t r.windowTimeout, highest := th, samples := [], sum := 0,
            counts := ⟨0, 0, 0, 0, 0, 0⟩, overspeed := false }
        s.testPoint isHead t = ({ s with wen := { s.wen with window := some opened } } : State).testPoint isHead t) ∧
      ∀ w, s.wen.window = some w →
        s.testPoint true t = (s.weighSample r t).testPoint false t ∧
        (s.thetaEff = none → s.testPoint false t = { s with wen := { s.wen with prevTheta := none } }) ∧
        ∀ th, s.thetaEff = some th →
          let top := max w.highest th
          let moved : State := { s with wen := { s.wen with window := some { w with highest := top } } }
          let kept := fun q : State => { q with wen := { q.wen with prevTheta := some th } }
          (r.thetaHi ≤ th → s.testPoint false t = kept (s.endWindow .closed t)) ∧
          (th < r.thetaHi → th ≤ top - r.h → s.testPoint false t = kept (moved.endWindow .reversed t)) ∧
          (th < r.thetaHi → top - r.h < th → s.testPoint false t = kept moved)

/-- From R45, R46, R56, R57, R59, R63, R66, R67, R78: F and θ_eff from the VALID values; a sample is rejected for the
first test it fails, STALE_INPUT, OUTSIDE, STALL, OVERSPEED or OUT_OF_RANGE, with that count saturated and the first
OVERSPEED of a window raised; a sample that passes is corrected by the first used band that covers ω and stored, or
counted EXCESS past 128. A sample that has an F is noted as the latest (log entry 11). -/
def Obligations.SamplesAreTestedInOrder : Prop :=
  (∀ (r : MachineRecord) (s : State), s.wen.record = some r →
    (s.sig.head.state ≠ .valid ∨ (s.sig.rod.state ≠ .unmapped ∧ s.sig.rod.state ≠ .valid) → s.force = none) ∧
    (s.sig.boom.state ≠ .valid ∨ (s.sig.pitch.state ≠ .unmapped ∧ s.sig.pitch.state ≠ .valid) → s.thetaEff = none) ∧
    (∀ h, s.sig.head.state = .valid → s.sig.head.value = some h →
      (s.sig.rod.state = .unmapped → s.force = some (rdiv (r.nCyl * (h * r.aHead)) 10000)) ∧
      (∀ p, s.sig.rod.state = .valid → s.sig.rod.value = some p →
        s.force = some (rdiv (r.nCyl * (h * r.aHead - p * r.aRod)) 10000))) ∧
    ∀ b, s.sig.boom.state = .valid → s.sig.boom.value = some b →
      (s.sig.pitch.state = .unmapped → s.thetaEff = some b) ∧
      (∀ p, s.sig.pitch.state = .valid → s.sig.pitch.value = some p → s.thetaEff = some (b + p))) ∧
  ∀ (r : MachineRecord) (t : Time) (w : Window) (s : State), s.wen.record = some r → s.wen.window = some w →
    let add := fun n : Nat => min 65535 (n + 1)
    let left := fun w' : Window => { s with wen := { s.wen with window := some w', latest := match s.force with
      | some f => some ⟨f, s.thetaEff, t⟩
      | none => s.wen.latest } }
    (s.force = none ∨ s.thetaEff = none → s.weighSample r t =
      left { w with counts := { w.counts with staleInput := add w.counts.staleInput } }) ∧
    ∀ f th, s.force = some f → s.thetaEff = some th →
      (th < r.thetaLo ∨ r.thetaHi < th → s.weighSample r t =
        left { w with counts := { w.counts with outside := add w.counts.outside } }) ∧
      (r.thetaLo ≤ th → th ≤ r.thetaHi →
        (s.sig.omega = none ∨ (∃ om, s.sig.omega = some om ∧ om < r.omegaMin) → s.weighSample r t =
          left { w with counts := { w.counts with stall := add w.counts.stall } }) ∧
        ∀ om, s.sig.omega = some om → (r.omegaMin : Int) ≤ om →
          ((∀ k : Fin 8, s.wen.bands[k].upper ≠ 0 → s.wen.bands[k].upper < om) →
            let rejected := left { w with counts := { w.counts with overspeed := add w.counts.overspeed },
                                          overspeed := true }
            s.weighSample r t =
              if w.overspeed then rejected else rejected.raiseAlert .overspeedLift (min 65535 om.toNat) t) ∧
          ∀ (k : Fin 8) (e l : List Int), s.wen.bands[k].upper ≠ 0 → om ≤ s.wen.bands[k].upper →
            (∀ j : Fin 8, j < k → s.wen.bands[j].upper ≠ 0 → s.wen.bands[j].upper < om) →
            s.wen.curveE = some e → s.wen.curveL = some l →
            let m := rdiv (r.mRef * (f - r.lookup e th)) (r.lookup l th - r.lookup e th)
            let m' := rdiv (m * (1000 + s.wen.bands[k].correction)) 1000
            (m < -20000 ∨ 80000 < m → s.weighSample r t =
              left { w with counts := { w.counts with outOfRange := add w.counts.outOfRange } }) ∧
            (-20000 ≤ m → m ≤ 80000 → w.samples.length < 128 → s.weighSample r t =
              left { w with samples := w.samples ++ [(m', t)], sum := w.sum + m' }) ∧
            (-20000 ≤ m → m ≤ 80000 → 128 ≤ w.samples.length → s.weighSample r t =
              left { w with counts := { w.counts with excess := add w.counts.excess } }))

/-- From R73 to R79, R82, R110 to R113: an end of a NONE window does nothing. The result of an OPEN one has its class
and reason by ending and sample count, with mean, mass and spread when it weighed, and becomes the last result; an
UNSTEADY one raises UNSTEADY_BUCKET. A tare pass clears tare armed and sets the tare to a mean within its limits, or
raises TARE_REFUSED unless the ending is MODE. CYT in LIFT or CARRY takes a result that is neither PARKED nor MODE as
the pending bucket or as the tare-pass marker, and CLOSED moves it to CARRY; any other it discards. -/
def Obligations.WindowEndDrivesTareAndCycle : Prop :=
  (∀ (e : Ending) (t : Time) (s : State), s.wen.window = none → s.endWindow e t = s) ∧
  ∀ (e : Ending) (t : Time) (w : Window) (r : MachineRecord) (s : State), s.wen.window = some w →
    s.wen.record = some r →
    let d := s.endWindow e t
    let n := w.samples.length
    let mean := trimmedMean w.masses r.trim
    let spread := trimmedSpread w.masses r.trim
    let cut := e = .lost ∨ e = .parked ∨ e = .mode
    ∃ x : WindowResult, d.wen.lastResult = some x ∧
      x.ending = e ∧ x.openTime = w.openTime ∧ x.endTime = t ∧ x.counts = w.counts ∧ x.n = n ∧
      x.kind = (if s.wen.tareArmed then .tarePass else .bucket) ∧
      (cut ∨ n < r.nMin → x.cls = .notWeighed ∧ x.mean = none ∧ x.mass = none ∧ x.spread = none ∧ x.t = 0 ∧
        x.belowZero = false ∧ x.overRange = false ∧
        x.reason = some (match e with
          | .lost => .signal
          | .parked => .parked
          | .mode => .mode
          | .closed | .reversed | .timeout | .dumped => .few)) ∧
      (¬ cut → r.nMin ≤ n → x.reason = none ∧ x.mean = some mean ∧ x.spread = some spread ∧ x.t = n * r.trim / 1000 ∧
        x.mass = some (max 0 (min 60000 (mean - s.wen.tare))).toNat ∧
        (x.belowZero = true ↔ mean - s.wen.tare < 0) ∧ (x.overRange = true ↔ 60000 < mean - s.wen.tare) ∧
        x.cls = if e = .closed then (if r.spreadLimit ≠ 0 ∧ r.spreadLimit < spread then .unsteady else .weighed)
          else .partialLift) ∧
      let good := x.cls = .weighed ∧ -2000 ≤ mean ∧ mean ≤ 2000
      let s1 := if x.cls = .unsteady then s.raiseAlert .unsteadyBucket (min 65535 spread) t else s
      let s2 := if s.wen.tareArmed = true ∧ ¬ good ∧ e ≠ .mode then
          s1.raiseAlert .tareRefused (match x.cls with
            | .weighed => 0
            | .unsteady => 1
            | .partialLift => 2
            | .notWeighed => 3) t
        else s1
      let next : CycleState := if e = .closed then .carry else s.cyt.state
      d = { s2 with
        wen := { s.wen with window := none, lastResult := some x, tareArmed := false,
                            tare := if s.wen.tareArmed = true ∧ good then mean else s.wen.tare }
        cyt := if (s.cyt.state = .lift ∨ s.cyt.state = .carry) ∧ e ≠ .parked ∧ e ≠ .mode then
            if s.wen.tareArmed then { s.cyt with pending := none, marker := true, state := next }
            else { s.cyt with
              pending := some { mass := x.mass, cls := x.cls, reason := x.reason, belowZero := x.belowZero,
                                overRange := x.overRange, reweighed := s.cyt.pending.isSome, ending := e, n := n,
                                counts := w.counts, endTime := t }
              marker := false, state := next }
          else s.cyt }

/-- From 00_scope 6.3, R54, R56, R75: the quotient is rounded to nearest, a tie away from zero. The lookup gives the
curve's value at a grid angle and the rounded interpolation between two; a force on the EMPTY curve weighs 0 and one on
the REFERENCE curve M_ref. The trimmed mean and the spread do not depend on the order of the samples: the t lowest and
the t highest go, and the mean and the spread are of those that stay. -/
def Obligations.MassesAreRoundedReadAndTrimmed : Prop :=
  (∀ n d : Int, d ≠ 0 →
    2 * |n - d * rdiv n d| ≤ |d| ∧ (2 * |n - d * rdiv n d| = |d| → |n| < |d * rdiv n d|)) ∧
  (∀ (r : MachineRecord) (curve : List Int) (i : Nat), r.ok = true → curve.length = r.n → i < r.n →
    r.lookup curve (r.theta0 + i * r.dTheta) = curve.getD i 0) ∧
  (∀ (r : MachineRecord) (curve : List Int) (i : Nat) (th : Int), r.ok = true → i + 1 < r.n →
    r.theta0 + i * r.dTheta ≤ th → th < r.theta0 + (i + 1) * r.dTheta →
    r.lookup curve th = curve.getD i 0 +
      rdiv ((curve.getD (i + 1) 0 - curve.getD i 0) * (th - (r.theta0 + i * r.dTheta))) r.dTheta) ∧
  (∀ (r : MachineRecord) (e l : Int), e < l → r.mass e e l = 0 ∧ r.mass l e l = r.mRef) ∧
  ∀ (ms ms' : List Int) (trim : Nat), ms.Perm ms' →
    let t := ms.length * trim / 1000
    let kept := trimmed ms trim
    trimmedMean ms trim = trimmedMean ms' trim ∧ trimmedSpread ms trim = trimmedSpread ms' trim ∧
    kept.length = ms.length - 2 * t ∧ (∀ x ∈ kept, x ∈ ms) ∧
    (trim ≤ 500 → ∃ low high : List Int, low.length = t ∧ high.length = t ∧ (low ++ kept ++ high).Perm ms ∧
      (∀ x ∈ kept, (∀ y ∈ low, y ≤ x) ∧ ∀ z ∈ high, x ≤ z) ∧ ∀ y ∈ low, ∀ z ∈ high, y ≤ z) ∧
    trimmedMean ms trim = rdiv kept.sum kept.length ∧
    (∀ x ∈ kept, ∀ y ∈ kept, x - y ≤ trimmedSpread ms trim) ∧
    (kept ≠ [] → ∃ x ∈ kept, ∃ y ∈ kept, x - y = trimmedSpread ms trim)

/-! ### The cycle and the loads -/

/-- From R103 to R109: no evaluation outside RUN, while PARKED, or with BOOM or HEAD not VALID. Else the state's tests
choose at most one change: IDLE digs at θ_dig with F_dig, DIG lifts past θ_dig + H or is abandoned below its release
force, LIFT at θ_dig is a returned pass, CARRY below θ_lo − H lifts again with its pending bucket, LOWER at θ_dig ends
the cycle; a test whose input is absent is not made. -/
def Obligations.EvaluationFollowsTheTable : Prop :=
  ∀ (t : Time) (s : State),
    (s.mgt.mode ≠ .run ∨ s.din.power = .parked ∨ s.sig.boom.state ≠ .valid ∨ s.sig.head.state ≠ .valid →
      s.evaluate t = s) ∧
    ∀ (r : MachineRecord) (th p : Int), s.mgt.mode = .run → s.din.power = .running → s.wen.record = some r →
      s.sig.boom.state = .valid → s.sig.boom.value = some th → s.sig.head.state = .valid → s.sig.head.value = some p →
      let go := fun c : CycleState => { s with cyt := { s.cyt with state := c } }
      (s.cyt.state = .idle →
        (∀ f, s.force = some f → th ≤ r.thetaDig → (r.fDig : Int) ≤ f → s.evaluate t =
          { s with cyt := { s.cyt with state := .dig, start := some t, lastCycle := match s.cyt.start with
            | some t0 => t - t0
            | none => s.cyt.lastCycle } }) ∧
        (r.thetaDig < th ∨ s.force = none ∨ (∃ f, s.force = some f ∧ f < r.fDig) → s.evaluate t = s)) ∧
      (s.cyt.state = .dig →
        (r.thetaDig + r.h < th → s.evaluate t = go .lift) ∧
        (∀ f, s.force = some f → th ≤ r.thetaDig → f < r.fDig - rdiv r.fDig 8 → s.evaluate t = go .idle) ∧
        (th ≤ r.thetaDig + r.h →
          r.thetaDig < th ∨ s.force = none ∨ (∃ f, s.force = some f ∧ r.fDig - rdiv r.fDig 8 ≤ f) →
          s.evaluate t = s)) ∧
      (s.cyt.state = .lift →
        (th ≤ r.thetaDig → s.evaluate t =
          { s with
            cyt := { s.cyt with state := .idle, pending := none, marker := false }
            lac := { s.lac with totals := { s.lac.totals with
              returned := min 4294967295 (s.lac.totals.returned + 1) } } }) ∧
        (r.thetaDig < th → s.evaluate t = s)) ∧
      (s.cyt.state = .carry →
        (∀ te, s.thetaEff = some te → te < r.thetaLo - r.h → s.evaluate t = go .lift) ∧
        (s.thetaEff = none ∨ (∃ te, s.thetaEff = some te ∧ r.thetaLo - r.h ≤ te) → s.evaluate t = s)) ∧
      (s.cyt.state = .lower →
        (th ≤ r.thetaDig → s.evaluate t = go .idle) ∧ (r.thetaDig < th → s.evaluate t = s))

/-- From R70, R114 to R119: outside RUN or while PARKED there is no dump test and no dump event. A TILT value above
θ_dump + H arms the tip detector, and one at or below θ_dump fires an armed one as a dump event. A dump event counts
only in LIFT and CARRY: an OPEN window first ends DUMPED; then a set tare-pass marker is counted as a tare pass and
cleared, or one record is handed to LAC and a cycle counted; CYT goes to LOWER with nothing pending. -/
def Obligations.TipTestsAndDumpsFollowTheCycle : Prop :=
  ∀ (t : Time) (s : State),
    let idle := s.mgt.mode ≠ .run ∨ s.din.power = .parked
    let lowered : Cyt := { s.cyt with pending := none, marker := false, state := .lower }
    (∀ v, idle → s.tipTest v t = s) ∧
    (∀ (v : Int) (r : MachineRecord), ¬ idle → s.wen.record = some r →
      (s.cyt.tipArmed = false → r.thetaDump + r.h < v →
        s.tipTest v t = { s with cyt := { s.cyt with tipArmed := true } }) ∧
      (s.cyt.tipArmed = false → v ≤ r.thetaDump + r.h → s.tipTest v t = s) ∧
      (s.cyt.tipArmed = true → r.thetaDump < v → s.tipTest v t = s) ∧
      (s.cyt.tipArmed = true → v ≤ r.thetaDump →
        s.tipTest v t = ({ s with cyt := { s.cyt with tipArmed := false } } : State).dumpEvent t)) ∧
    (idle ∨ (s.cyt.state ≠ .lift ∧ s.cyt.state ≠ .carry) → s.dumpEvent t = s) ∧
    (¬ idle → s.cyt.state = .lift ∨ s.cyt.state = .carry →
      (s.wen.window.isSome = true → s.dumpEvent t = (s.endWindow .dumped t).dumpEvent t) ∧
      (s.wen.window = none → s.cyt.marker = true → s.dumpEvent t =
        { s with
          cyt := lowered
          lac := { s.lac with totals := { s.lac.totals with
            tarePasses := min 4294967295 (s.lac.totals.tarePasses + 1) } } }) ∧
      (∀ x, s.wen.window = none → s.cyt.marker = false → s.cyt.start = some x →
        ∃ h : HandedRecord, h.digToDump = t - x ∧ h.dumpTime = t ∧
          (s.cyt.pending = none → h.mass = none ∧ h.cls = .notWeighed ∧ h.reason = some .noWindow ∧
            h.belowZero = false ∧ h.overRange = false ∧ h.reweighed = false ∧ h.n = 0) ∧
          (∀ q, s.cyt.pending = some q → h.mass = q.mass ∧ h.cls = q.cls ∧ h.reason = q.reason ∧
            h.belowZero = q.belowZero ∧ h.overRange = q.overRange ∧ h.reweighed = q.reweighed ∧ h.n = q.n) ∧
          let d := s.addBucket h t
          s.dumpEvent t =
            { d with
              cyt := lowered
              lac := { d.lac with totals := { d.lac.totals with
                cycles := min 4294967295 (d.lac.totals.cycles + 1) } } }))

/-- From R116, R117, R119, R128, R129, R131, R142, R202, R212: a dump event in LIFT or CARRY, with no window OPEN and no
tare-pass marker, hands exactly one record to a load with room, with the fill of its mass on the material's density and
the rated volume, offers E its BUCKET frame and then the ALERT of an OVERLOAD_ALERT, counts one cycle and leaves CYT in
LOWER with nothing pending. -/
def Obligations.DumpHandsOneRecord : Prop :=
  ∀ (t : Time) (s : State), s.mgt.mode = .run → s.din.power = .running →
    s.cyt.state = .lift ∨ s.cyt.state = .carry → s.wen.window = none → s.cyt.marker = false →
    s.lac.load.buckets.length < 16 →
    ∃ b, (s.dumpEvent t).lac.load.buckets = s.lac.load.buckets ++ [b] ∧
      b.handed.dumpTime = t ∧ b.position = s.lac.load.buckets.length + 1 ∧
      (∀ q, s.cyt.pending = some q → b.handed.mass = q.mass ∧ b.handed.cls = q.cls ∧
        b.handed.reweighed = q.reweighed ∧ b.handed.n = q.n) ∧
      (s.cyt.pending = none → b.handed.mass = none ∧ b.handed.cls = .notWeighed ∧
        b.handed.reason = some .noWindow ∧ b.fill = none) ∧
      (∀ (q : PendingRecord) (m : Nat) (r : MachineRecord), s.cyt.pending = some q → q.mass = some m →
        s.wen.record = some r → b.fill = some (max 0 (min 2000
          (rdiv (m * 1000000) (s.lac.materials[s.lac.load.material] * r.volume)))).toNat) ∧
      (∀ x, s.cyt.start = some x → b.handed.digToDump = t - x) ∧
      (s.dumpEvent t).lac.load.number = s.lac.load.number ∧
      (s.dumpEvent t).lac.completed = s.lac.completed ∧
      (s.dumpEvent t).lac.totals = { s.lac.totals with cycles := min 4294967295 (s.lac.totals.cycles + 1) } ∧
      (s.dumpEvent t).cyt = { s.cyt with pending := none, marker := false, state := .lower } ∧
      (s.dumpEvent t).wen = s.wen ∧ (s.dumpEvent t).sig = s.sig ∧ (s.dumpEvent t).din = s.din ∧
      let bs := s.lac.load.buckets ++ [b]
      let l : Load := { s.lac.load with buckets := bs, total := massSum bs, unweighed := absentCount bs,
                                        incomplete := decide (absentCount bs ≠ 0) }
      ∃ f, BucketFrame s.mgt.node l b f ∧
        let d := (({ s with lac := { s.lac with load := l } } : State).afterOffer f).afterOverload t
        s.dumpEvent t =
          { d with
            cyt := { s.cyt with pending := none, marker := false, state := .lower }
            lac := { d.lac with totals := (s.dumpEvent t).lac.totals } }

/-- From R125, R130, R131, R134, R137, R142, R202, R212: a record that arrives on a load of 16 closes that load AUTO
first, raises LOAD_AUTO_CLOSED and opens the next load with the record in it. E is offered, in order, the LOAD_CLOSED
frame, the ALERT of LOAD_AUTO_CLOSED, the BUCKET frame and the ALERT of an OVERLOAD_ALERT. At the greatest load number
the list is emptied and the next load is number 1. -/
def Obligations.SeventeenthBucketClosesTheLoad : Prop :=
  ∀ (h : HandedRecord) (t : Time) (s : State), s.lac.load.buckets.length = 16 →
    let d := s.addBucket h t
    (s.lac.load.number < 4294967295 → (∃ older, d.lac.completed = older ++ [⟨s.lac.load, t, .auto⟩]) ∧
      d.lac.load.number = s.lac.load.number + 1) ∧
    (s.lac.load.number = 4294967295 → d.lac.completed = [] ∧ d.lac.load.number = 1) ∧
    d.lac.load.openTime = t ∧ d.lac.load.target = s.lac.target ∧
    d.lac.load.material = s.lac.nextMaterial.getD s.lac.load.material ∧ d.lac.nextMaterial = none ∧
    (∃ b, d.lac.load.buckets = [b] ∧ b.handed = h ∧ b.position = 1) ∧
    d.mgt.alerts.getLsbD 11 = true ∧
    d.lac.totals.materials[s.lac.load.material].trucks =
      min 4294967295 (s.lac.totals.materials[s.lac.load.material].trucks + 1) ∧
    ∃ f g b, LoadClosedFrame s.mgt.node s.lac.load .auto f ∧
      let next := (s.afterClosing .auto t f).afterAlert 11 15 s.lac.load.number t
      let l : Load := { next.lac.load with buckets := [b], total := massSum [b], unweighed := absentCount [b],
                                           incomplete := decide (absentCount [b] ≠ 0) }
      b.handed = h ∧ b.position = 1 ∧ BucketFrame s.mgt.node l b g ∧
      d = (({ next with lac := { next.lac with load := l } } : State).afterOffer g).afterOverload t

/-- From R131, R133, R186, R202, R212: CANCEL_LAST removes the newest record, recomputes the load's figures, evaluates
OVERLOAD, offers E no display frame for the record, keeps number, list and totals, and answers the removed mass and the
new total; on an empty load it is refused EMPTY. -/
def Obligations.CancelLastRemovesTheNewest : Prop :=
  ∀ (p : Port) (tag : Byte) (s : State), s.hasRoom p = true →
    (s.lac.load.buckets = [] → exec (.cancelLast p tag) s = .next (s.respond p 0x21 tag .empty [])) ∧
    ∀ (older : List BucketRecord) (b : BucketRecord), s.lac.load.buckets = older ++ [b] →
      ∃ t, exec (.cancelLast p tag) s = .next t ∧
        t.lac.load.buckets = older ∧ t.lac.load.total = massSum older ∧ t.lac.load.unweighed = absentCount older ∧
        (t.lac.load.incomplete = true ↔ absentCount older ≠ 0) ∧
        (t.lac.load.overload = true ↔
          s.lac.load.target ≠ 0 ∧ s.lac.load.target + s.lac.load.tolerance < massSum older) ∧
        t.lac.load.number = s.lac.load.number ∧ t.lac.load.material = s.lac.load.material ∧
        t.lac.completed = s.lac.completed ∧ t.lac.totals = s.lac.totals ∧ t.lac.nextMaterial = s.lac.nextMaterial ∧
        (s.keepsResponses p = true → t.responses p = s.responses p ++ [responseFrame s.mgt.node 0x21 tag .ok
          (uField? 2 b.handed.mass ++ leBytes 3 (massSum older))]) ∧
        t.fcl = s.fcl ∧ t.sig = s.sig ∧ t.din = s.din ∧ t.wen = s.wen ∧ t.cyt = s.cyt ∧
        let l : Load := { s.lac.load with buckets := older, total := massSum older, unweighed := absentCount older,
                                          incomplete := decide (absentCount older ≠ 0) }
        t = (({ s with lac := { s.lac with load := l } } : State).afterOverload s.time).respond p 0x21 tag .ok
          (uField? 2 b.handed.mass ++ leBytes 3 (massSum older))

/-- From R125, R134, R135, R137, R142, R186, R212: NEXT_TRUCK on a load with records files it closed-by MANAGEMENT, adds
it to its material's totals, offers E the LOAD_CLOSED frame and opens the next load on the settings; at the greatest
load number the list is emptied instead and the next load is number 1; on an empty load it is refused EMPTY. -/
def Obligations.NextTruckClosesTheLoad : Prop :=
  ∀ (p : Port) (tag : Byte) (s : State), s.hasRoom p = true →
    (s.lac.load.buckets = [] → exec (.nextTruck p tag) s = .next (s.respond p 0x22 tag .empty [])) ∧
    (s.lac.load.buckets ≠ [] →
      ∃ t, exec (.nextTruck p tag) s = .next t ∧
        (s.lac.load.number ≠ 4294967295 → ∃ older, t.lac.completed = older ++ [⟨s.lac.load, s.time, .management⟩] ∧
          older = if s.lac.completed.length < 8 then s.lac.completed else s.lac.completed.drop 1) ∧
        (s.lac.load.number = 4294967295 → t.lac.completed = []) ∧
        t.lac.load = { number := if s.lac.load.number = 4294967295 then 1 else s.lac.load.number + 1,
                       material := s.lac.nextMaterial.getD s.lac.load.material,
                       target := s.lac.target, tolerance := s.lac.tolerance, buckets := [], total := 0,
                       unweighed := 0, openTime := s.time, incomplete := false, overload := false,
                       alerted := false } ∧
        t.lac.nextMaterial = none ∧ t.lac.materials = s.lac.materials ∧
        t.lac.totals.materials[s.lac.load.material] =
          { trucks := min 4294967295 (s.lac.totals.materials[s.lac.load.material].trucks + 1),
            buckets := min 4294967295
              (s.lac.totals.materials[s.lac.load.material].buckets + s.lac.load.buckets.length),
            unweighed := min 4294967295
              (s.lac.totals.materials[s.lac.load.material].unweighed + s.lac.load.unweighed),
            mass := min 4294967295 (s.lac.totals.materials[s.lac.load.material].mass + s.lac.load.total) } ∧
        (∀ k : Fin 16, k ≠ s.lac.load.material → t.lac.totals.materials[k] = s.lac.totals.materials[k]) ∧
        t.lac.totals.cycles = s.lac.totals.cycles ∧
        (s.keepsResponses p = true → t.responses p = s.responses p ++ [responseFrame s.mgt.node 0x22 tag .ok
          (leBytes 2 s.lac.load.number ++ leBytes 3 s.lac.load.total)]) ∧
        t.fcl = s.fcl ∧ t.sig = s.sig ∧ t.din = s.din ∧ t.wen = s.wen ∧ t.cyt = s.cyt ∧
        ∃ f, LoadClosedFrame s.mgt.node s.lac.load .management f ∧
          t = (s.afterClosing .management s.time f).respond p 0x22 tag .ok
            (leBytes 2 s.lac.load.number ++ leBytes 3 s.lac.load.total))

/-- From R131, R132, R136, R138, R186, R202, R212: SET_TARGET sets the settings and the current load's limit and
evaluates OVERLOAD, whose first crossing of a load raises OVERLOAD_ALERT with the excess; SET_MATERIAL acts at once on
an empty load and is stored otherwise; SHIFT_CLOSE zeroes the totals; a value out of range is answered BAD_ARG with no
effect. -/
def Obligations.TargetMaterialAndShiftAreSet : Prop :=
  ∀ (p : Port) (tag : Byte) (s : State), s.hasRoom p = true →
    (∀ (target : BitVec 24) (tolerance : BitVec 16), target.toNat ≤ 200000 → tolerance.toNat ≤ 20000 →
      ∃ t, exec (.setTarget p tag target tolerance) s = .next t ∧
        t.lac.target = target.toNat ∧ t.lac.tolerance = tolerance.toNat ∧
        t.lac.load.target = target.toNat ∧ t.lac.load.tolerance = tolerance.toNat ∧
        (t.lac.load.overload = true ↔
          target.toNat ≠ 0 ∧ target.toNat + tolerance.toNat < s.lac.load.total) ∧
        t.lac.load.buckets = s.lac.load.buckets ∧ t.lac.completed = s.lac.completed ∧
        (s.keepsResponses p = true →
          t.responses p = s.responses p ++ [responseFrame s.mgt.node 0x24 tag .ok []]) ∧
        t.wen = s.wen ∧ t.cyt = s.cyt ∧ t.sig = s.sig ∧ t.fcl = s.fcl ∧ t.din = s.din ∧
        let l : Load := { s.lac.load with target := target.toNat, tolerance := tolerance.toNat }
        let q : State := { s with lac := { s.lac with target := target.toNat, tolerance := tolerance.toNat, load := l } }
        t = (q.afterOverload s.time).respond p 0x24 tag .ok []) ∧
    (∀ (target : BitVec 24) (tolerance : BitVec 16), 200000 < target.toNat ∨ 20000 < tolerance.toNat →
      exec (.setTarget p tag target tolerance) s = .next (s.respond p 0x24 tag .badArg [])) ∧
    (∀ k : Fin 16, s.lac.materials[k] ≠ 0 → s.lac.load.buckets = [] →
      exec (.setMaterial p tag (BitVec.ofNat 8 k.val)) s =
        .next ({ s with lac := { s.lac with load := { s.lac.load with material := k }, nextMaterial := none } }.respond
          p 0x25 tag .ok [0])) ∧
    (∀ k : Fin 16, s.lac.materials[k] ≠ 0 → s.lac.load.buckets ≠ [] →
      exec (.setMaterial p tag (BitVec.ofNat 8 k.val)) s =
        .next ({ s with lac := { s.lac with nextMaterial := some k } }.respond p 0x25 tag .ok [1])) ∧
    (∀ index : Byte, (∀ h : index.toNat < 16, s.lac.materials[index.toNat] = 0) →
      exec (.setMaterial p tag index) s = .next (s.respond p 0x25 tag .badArg [])) ∧
    ∃ x : Totals, (∀ k : Fin 16, x.materials[k] = ⟨0, 0, 0, 0⟩) ∧ x.cycles = 0 ∧ x.returned = 0 ∧
      x.tarePasses = 0 ∧ x.shiftStart = s.time ∧
      exec (.shiftClose p tag) s = .next ({ s with lac := { s.lac with totals := x } }.respond p 0x23 tag .ok [])

/-! ### Calibration -/

/-- From R59, R88 to R91, R95 to R97: outside CALIBRATE or while PARKED there is no test point. In ARMED a BOOM value
does nothing and a HEAD sample that fails a test clears the start sample; one that qualifies becomes the start sample
below θ0 − H or at most the present one, and above it enters RISING with a capture. In RISING a failed test breaks the
run with SIGNAL, GAP or SPEED, a drop of H below the highest θ_eff with REVERSED, and a HEAD sample that passes
captures. A break takes the run values out of the sums, counts and offers CAL_PROGRESS; an interruption breaks a run in
RISING and clears the start sample of one in ARMED. That a HEAD sample that has an F is noted as the latest, with its
θ_eff or absent, and one without an F keeps what was noted, is the model's inference (log entry 11). -/
def Obligations.CalibrationRunsRiseAndBreak : Prop :=
  (∀ (isHead : Bool) (t : Time) (s : State), s.mgt.mode ≠ .calibrate ∨ s.din.power = .parked →
    s.calPoint isHead t = s) ∧
  (∀ (t : Time) (r : MachineRecord) (c : Calibration) (s : State), s.mgt.mode = .calibrate → s.din.power = .running →
    s.wen.record = some r → s.wen.calibration = some c →
    let put := fun run : RunState => { s with wen := { s.wen with calibration := some { c with run := run } } }
    let sampled := fun run : RunState =>
      { s with wen := { s.wen with calibration := some { c with run := run }, latest := match s.force with
        | some f => some ⟨f, s.thetaEff, t⟩
        | none => s.wen.latest } }
    (∀ start, c.run = .armed start →
      s.calPoint false t = s ∧
      (s.force = none ∨ s.thetaEff = none ∨ s.sig.omega = none ∨ (∃ om, s.sig.omega = some om ∧ r.calSpeed < om) →
        s.calPoint true t = sampled (.armed none)) ∧
      ∀ f th om, s.force = some f → s.thetaEff = some th → s.sig.omega = some om → om ≤ r.calSpeed →
        (start = none → th < r.theta0 - r.h → s.calPoint true t = sampled (.armed (some (th, f)))) ∧
        (start = none → r.theta0 - r.h ≤ th → s.calPoint true t = sampled (.armed none)) ∧
        ∀ th0 f0, start = some (th0, f0) →
          (th ≤ th0 → s.calPoint true t = sampled (.armed (some (th, f)))) ∧
          (th0 < th → s.calPoint true t = (sampled (.armed start)).capturePoints r c th0 f0 th [] th f t)) ∧
    ∀ th0 f0 highest values, c.run = .rising th0 f0 highest values →
      (s.force = none ∨ s.thetaEff = none → s.calPoint true t = (sampled c.run).breakRun .signal t) ∧
      (s.thetaEff = none → s.calPoint false t = s) ∧
      ∀ th, s.thetaEff = some th →
        let top := max highest th
        (s.sig.omega = none → s.calPoint false t = s.breakRun .gap t ∧
          (s.force ≠ none → s.calPoint true t = (sampled c.run).breakRun .gap t)) ∧
        ∀ om, s.sig.omega = some om →
          (r.calSpeed < om → s.calPoint false t = s.breakRun .speed t ∧
            (s.force ≠ none → s.calPoint true t = (sampled c.run).breakRun .speed t)) ∧
          (om ≤ r.calSpeed → th ≤ top - r.h → s.calPoint false t = s.breakRun .reversed t ∧
            (s.force ≠ none → s.calPoint true t = (sampled c.run).breakRun .reversed t)) ∧
          (om ≤ r.calSpeed → top - r.h < th → s.calPoint false t = put (.rising th0 f0 top values) ∧
            ∀ f, s.force = some f →
              s.calPoint true t = (sampled c.run).capturePoints r c th0 f0 top values th f t)) ∧
  ∀ (reason : BreakReason) (t : Time) (s : State),
    (s.wen.calibration = none → s.interruptRun reason t = s) ∧
    ∀ c, s.wen.calibration = some c →
      (∀ start, c.run = .armed start → s.interruptRun reason t =
        { s with wen := { s.wen with calibration := some { c with run := .armed none } } }) ∧
      ∀ th f top values, c.run = .rising th f top values →
        s.interruptRun reason t = s.breakRun reason t ∧
        ∃ sums : List Int, sums.length = c.sums.length ∧
          (∀ i, i < sums.length → sums.getD i 0 = c.sums.getD i 0 - values.getD i 0) ∧
          let c' : Calibration := { c with sums := sums, run := .armed none, broken := min 65535 (c.broken + 1) }
          s.breakRun reason t = ({ s with wen := { s.wen with calibration := some c' } } : State).offerE
            (s.displayFrame 5 [(1, c.target.code), (2, 1), (3, c.done + 1), (3, reason.code), (5, values.length),
              (3, 7), (7, 0), (32, t.toNat)])

/-- From R92 to R94, R97, R98: a capture takes every grid angle from the next point up to the sample's θ_eff, in order,
each with its interpolated and limited value added to its sum. The last point ends the run DONE with its CAL_PROGRESS
frame; the last run makes the target curve from the averages, settles the curve state with CAL_INVALID where validation
fails, offers COMPLETE, and changes the mode to CONFIG with its NOTICE, in that order on E. -/
def Obligations.CalibrationCapturesAndCompletes : Prop :=
  (∀ (r : MachineRecord) (c : Calibration) (th0 f0 top : Int) (values : List Int) (th1 f1 : Int) (t : Time) (s : State),
    let k := values.length
    let angle := fun i : Nat => r.theta0 + (i : Int) * r.dTheta
    ∃ vs sums : List Int,
      (∀ i, i < vs.length → k + i < r.n ∧ angle (k + i) ≤ th1 ∧ vs.getD i 0 =
        max (-524280) (min 524280 (f0 + rdiv ((f1 - f0) * (angle (k + i) - th0)) (th1 - th0)))) ∧
      (k + vs.length < r.n → th1 < angle (k + vs.length)) ∧
      sums.length = c.sums.length ∧
      (∀ i, i < sums.length → sums.getD i 0 =
        c.sums.getD i 0 + if k ≤ i ∧ i < k + vs.length then vs.getD (i - k) 0 else 0) ∧
      let c' := { c with sums := sums, run := .rising th1 f1 top (values ++ vs) }
      (k + vs.length < r.n → s.capturePoints r c th0 f0 top values th1 f1 t =
        { s with wen := { s.wen with calibration := some c' } }) ∧
      (r.n ≤ k + vs.length → s.capturePoints r c th0 f0 top values th1 f1 t = s.runDone c' r.n t)) ∧
  ∀ (c : Calibration) (points : Nat) (t : Time) (s : State),
    let d := s.runDone c points t
    let done := s.displayFrame 5 [(1, c.target.code), (2, 0), (3, c.done + 1), (3, 7), (5, points), (3, 7), (7, 0),
      (32, t.toNat)]
    (c.done + 1 < c.runs → d =
      ({ s with wen := { s.wen with calibration := some { c with done := c.done + 1, run := .armed none } } } :
        State).offerE done) ∧
    (c.runs ≤ c.done + 1 → s.mgt.mode = .calibrate →
      ∃ curve : List Int, curve.length = c.sums.length ∧
        (∀ i, i < curve.length → curve.getD i 0 = rdiv (c.sums.getD i 0) c.runs) ∧
        d.wen = { s.wen with
          curveE := if c.target = .empty then some curve else s.wen.curveE
          curveL := if c.target = .reference then some curve else s.wen.curveL
          latest := none, calibration := none } ∧
        d.mgt = { s.mgt with mode := .config, alerts := d.mgt.alerts } ∧
        d.cport = { s.cport with e := { s.cport.e with queue := d.cport.e.queue } } ∧
        d = { s with wen := d.wen, mgt := d.mgt, cport := d.cport } ∧
        let complete := fun code : Nat =>
          [s.displayFrame 5 [(1, c.target.code), (2, 2), (3, c.runs), (3, 7), (5, points), (3, code), (7, 0),
             (32, t.toNat)],
           s.displayFrame 6 [(2, 0), (2, 0), (2, 2), (2, 2), (1, 0), (3, 0), (12, 0), (32, t.toNat)]]
        let other := if c.target = .empty then s.wen.curveL else s.wen.curveE
        (other = none →
          d.cport.e.queue = s.cport.e.afterOffers ([done] ++ complete (if c.target = .empty then 1 else 2))) ∧
        ∀ o, other = some o → o.length = curve.length →
          let gap := fun i : Nat =>
            if c.target = .empty then o.getD i 0 - curve.getD i 0 else curve.getD i 0 - o.getD i 0
          ((∀ i, i < curve.length → 50 ≤ gap i) →
            d.cport.e.queue = s.cport.e.afterOffers ([done] ++ complete 3)) ∧
          ∀ i, i < curve.length → gap i < 50 → (∀ j, j < i → 50 ≤ gap j) →
            d.mgt.alerts.getLsbD 9 = true ∧
            d.cport.e.queue = s.cport.e.afterOffers ([done] ++
              (if s.mgt.mask.getLsbD 9 then [s.displayFrame 4 [(4, 9), (4, 15), (16, i), (32, t.toNat)]] else []) ++
              complete 4))

/-! ### Modes -/

/-- From R36, R69, R71, R85, R96, R199, R200: a deferred change waits for the window to be NONE and is then applied and
removed: CYT is set aside, tare armed and the latest sample cleared, the calibration set up or NONE, and the NOTICE
offered with cause DEFERRED. A timeout and the loss of HEAD or BOOM apply it after the window has ended and CYT has its
result; the loss of another role only ages its slot and raises SIGNAL_LOST. -/
def Obligations.DeferredChangeIsApplied : Prop :=
  (∀ (t : Time) (s : State),
    (s.mgt.deferred = none ∨ s.wen.window.isSome = true → s.applyDeferred t = s) ∧
    (s.wen.window = none → s.mgt.mode = .run →
      let d := s.applyDeferred t
      let applied := fun (mode : Mode) (cal : Option Calibration) (target runs : Nat) =>
        d.mgt = { s.mgt with mode := mode, deferred := none, alerts := d.mgt.alerts } ∧
        d.wen = { s.wen with tareArmed := false, latest := none, calibration := cal } ∧
        d.cyt = { state := .idle, pending := none, marker := false, start := none, lastCycle := s.cyt.lastCycle,
                  tipArmed := false } ∧
        d.cport.e.queue = s.cport.e.afterOffers
          [s.displayFrame 6 [(2, 0), (2, mode.code), (2, 1), (2, 1), (1, target), (3, runs), (12, 0),
            (32, t.toNat)]] ∧
        d.cport = { s.cport with e := { s.cport.e with queue := d.cport.e.queue } } ∧
        d = { s with mgt := d.mgt, wen := d.wen, cyt := d.cyt, cport := d.cport }
      (s.mgt.deferred = some .config → applied .config none 0 0) ∧
      ∀ (c : CurveName) (runs : Nat) (r : MachineRecord), s.mgt.deferred = some (.calibrate c runs) →
        s.wen.record = some r → s.sig.head.mapped = true → s.sig.boom.mapped = true →
        applied .calibrate (some { target := c, runs := runs, done := 0, sums := List.replicate r.n 0,
                                   run := .armed none, broken := 0 }) c.code runs)) ∧
  (∀ (w : Window) (s : State), s.wen.window = some w → s.reached w.timeout = true →
    exec .windowTimeout s = .next ((s.endWindow .timeout w.timeout).applyDeferred w.timeout)) ∧
  ∀ (r : Role) (x : Time) (s : State), (s.sig.slot r).loss = some x → s.reached x = true →
    let aged : State :=
      { s with sig := s.sig.setSlot r { s.sig.slot r with state := .lost, fresh := none, loss := none } }
    let lost := aged.raiseAlert .signalLost (roleCode r) x
    exec (.lossExpiry r) s = .next
      (if r = .head ∨ r = .boom then ((lost.endWindow .lost x).interruptRun .signal x).applyDeferred x else lost)

/-- From R85, R99, R198 to R201: SET_MODE by the current mode: a mode, target or R out of range is answered BAD_ARG;
with a window OPEN in RUN, CONFIG and CALIBRATE are DEFERRED whatever their conditions and RUN removes the deferred
change; CONFIG in CONFIG and RUN in RUN change nothing; else the first condition that fails is answered NOT_READY with
its detail and changes nothing, and a change is made at once with its effects and its NOTICE. -/
def Obligations.SetModeFollowsTheTable : Prop :=
  ∀ (p : Port) (tag target runs : Byte) (s : State), s.hasRoom p = true →
    let open' := s.mgt.mode = .run ∧ s.wen.window.isSome = true
    let answers := fun (mode : Byte) (q : State) (st : Status) (results : List Byte) =>
      exec (.setMode p tag mode target runs) s = .next (q.respond p 0x10 tag st results)
    let defers := fun d : Option Deferred => ({ s with mgt := { s.mgt with deferred := d } } : State)
    let noticed := fun (t : State) (new : Mode) (c r : Nat) => t.cport.e.queue = s.cport.e.afterOffers
      [s.displayFrame 6 [(2, 0), (2, new.code), (2, s.mgt.mode.code), (2, 0), (1, c), (3, r), (12, 0),
        (32, s.time.toNat)]]
    (∀ mode : Byte, 3 ≤ mode.toNat → answers mode s .badArg []) ∧
    (2 ≤ target.toNat ∨ runs = 0 ∨ 5 ≤ runs.toNat → answers 2 s .badArg []) ∧
    (open' → answers 0 (defers (some .config)) .deferred [] ∧ answers 1 (defers none) .ok []) ∧
    (s.mgt.mode = .config → answers 0 s .ok []) ∧
    (s.mgt.mode = .run → s.wen.window = none → answers 1 s .ok []) ∧
    (s.mgt.mode = .run → s.wen.window = none → ∃ t, exec (.setMode p tag 0 target runs) s = .next t ∧
      t.mgt.mode = .config ∧ t.cyt.state = .idle ∧ t.cyt.pending = none ∧ t.wen.tareArmed = false ∧
      t.wen.calibration = none ∧ t.lac = s.lac ∧ t.sig = s.sig ∧ t.fcl = s.fcl ∧ t.din = s.din ∧
      noticed t .config 0 0) ∧
    (s.mgt.mode = .calibrate → ∃ t, exec (.setMode p tag 0 target runs) s = .next t ∧
      t.mgt.mode = .config ∧ t.wen = { s.wen with latest := none, calibration := none } ∧ t.cyt = s.cyt ∧
      t.lac = s.lac ∧ t.sig = s.sig ∧ t.fcl = s.fcl ∧ t.din = s.din ∧ noticed t .config 0 0) ∧
    (s.mgt.mode ≠ .run →
      (s.wen.record = none → answers 1 s .notReady [1]) ∧
      (s.wen.record.isSome = true → s.sig.head.mapped = false → answers 1 s .notReady [2]) ∧
      (s.wen.record.isSome = true → s.sig.head.mapped = true → s.sig.boom.mapped = false →
        answers 1 s .notReady [3]) ∧
      (s.wen.record.isSome = true → s.sig.head.mapped = true → s.sig.boom.mapped = true →
        (s.wen.curveState ≠ .valid → answers 1 s .notReady [4]) ∧
        (s.wen.curveState = .valid → anyBandUsed s.wen.bands = false → answers 1 s .notReady [5]) ∧
        (s.wen.curveState = .valid → anyBandUsed s.wen.bands = true → s.lac.materialUsed = false →
          answers 1 s .notReady [6]) ∧
        (s.wen.curveState = .valid → anyBandUsed s.wen.bands = true → s.lac.materialUsed = true →
          ∃ t, exec (.setMode p tag 1 target runs) s = .next t ∧ t.mgt.mode = .run ∧ t.wen.calibration = none ∧
            t.wen.prevTheta = none ∧ t.cyt.tipArmed = false ∧ t.wen.record = s.wen.record ∧
            t.wen.tare = s.wen.tare ∧ t.lac = s.lac ∧ t.sig = s.sig ∧ t.fcl = s.fcl ∧ t.din = s.din ∧
            noticed t .run 0 0 ∧
            (s.keepsResponses p = true →
              t.responses p = s.responses p ++ [responseFrame s.mgt.node 0x10 tag .ok []])))) ∧
    ∀ c : CurveName, target.toNat = c.code → 1 ≤ runs.toNat → runs.toNat ≤ 4 →
      (open' → answers 2 (defers (some (.calibrate c runs.toNat))) .deferred []) ∧
      (¬ open' →
        (s.wen.record = none → answers 2 s .notReady [1]) ∧
        (s.wen.record.isSome = true → s.sig.head.mapped = false → answers 2 s .notReady [2]) ∧
        (s.wen.record.isSome = true → s.sig.head.mapped = true → s.sig.boom.mapped = false →
          answers 2 s .notReady [3]) ∧
        ∀ r : MachineRecord, s.wen.record = some r → s.sig.head.mapped = true → s.sig.boom.mapped = true →
          ∃ t, exec (.setMode p tag 2 target runs) s = .next t ∧ t.mgt.mode = .calibrate ∧
            t.wen.calibration = some { target := c, runs := runs.toNat, done := 0, sums := List.replicate r.n 0,
                                       run := .armed none, broken := 0 } ∧
            t.wen.curveE = s.wen.curveE ∧ t.wen.curveL = s.wen.curveL ∧ t.lac = s.lac ∧ t.sig = s.sig ∧
            (s.mgt.mode = .run → t.cyt.state = .idle ∧ t.cyt.pending = none ∧ t.wen.tareArmed = false) ∧
            noticed t .calibrate c.code runs.toNat)

/-! ### The transmitters -/

/-- From R5, R168, R173: with a FREE transmitter on a port that is not SILENT, the arbiter takes the oldest frame of the
first OPEN and non-empty channel in the order M, E, G, C, P, stamping the toggle into bit 7 of byte 7 of a G or E frame,
which keeps its identifier, its kind, its 8 bytes and every other bit; the machine transmitter takes its oldest
response. -/
def Obligations.TransmittersTakeInOrder : Prop :=
  (∀ (ch : Channel) (f : Frame) (q : List Frame) (s : State), s.cport.carrying = none → s.cport.tx.silence = none →
    (s.cport.chan ch).queue = f :: q → (s.cport.chan ch).held = false → (s.cport.chan ch).blocked = false →
    (∀ d : Channel, d.rank < ch.rank →
      (s.cport.chan d).held = true ∨ (s.cport.chan d).blocked = true ∨ (s.cport.chan d).queue = []) →
    ∃ t f', exec .arbiterTake s = .next t ∧ t.cport.carrying = some ch ∧ (t.cport.chan ch).queue = f' :: q ∧
      (ch = .m ∨ ch = .c ∨ ch = .p → f' = f) ∧
      (∀ bytes, (frameBytes f) = bytes → bytes.length = 8 → ch = .g ∨ ch = .e →
        f'.id = f.id ∧ (frameBytes f').take 7 = bytes.take 7 ∧
        f'.body = .data (frameBytes f') ∧ (frameBytes f').length = 8 ∧
        (byteAt (frameBytes f') 7).toNat % 128 = (byteAt bytes 7).toNat % 128 ∧
        toggleOf (frameBytes f') = if ch = .g then s.cport.toggleG else s.cport.toggleE) ∧
      (∀ d : Channel, d ≠ ch → t.cport.chan d = s.cport.chan d) ∧
      t = { s with cport := t.cport } ∧ t.cport.tx = s.cport.tx ∧ t.cport.toggleG = s.cport.toggleG ∧
      t.cport.toggleE = s.cport.toggleE ∧ t.cport.budget = s.cport.budget) ∧
  ∀ s : State, s.mport.carrying = false → s.mport.tx.silence = none → s.mport.queue ≠ [] →
    exec .machineTxTake s = .next { s with mport := { s.mport with carrying := true } }

/-- From R169 to R171, R173, R174, R202, R212: a SENT frame leaves its queue, both counts become 0 and the transmitter
is FREE; the toggle of G or E becomes the inverse of the one carried, or the pending value. A LOST attempt changes
nothing; a FAILED one below the 8th adds one to the failed count; the 8th drops the frame: its toggle is unchanged or
takes the pending value, TX_FAULT is raised with the port and the cab's channel, and the third drop in a row silences
the port for 1,000 ms and then raises PORT_SILENT; nothing else changes. The silence ends at its time. -/
def Obligations.AttemptOutcomesEndTheTransmission : Prop :=
  ((∀ (ch : Channel) (f : Frame) (q : List Frame) (s : State), s.cport.carrying = some ch →
    (s.cport.chan ch).queue = f :: q →
    ∃ t, exec (.attemptSent .cab) s = .next t ∧ (t.cport.chan ch).queue = q ∧ t.cport.carrying = none ∧
      t.cport.tx = { s.cport.tx with failed := 0, drops := 0 } ∧
      t.cport.toggleG = (if ch = .g then s.cport.pendingG.getD (!toggleOf (frameBytes f)) else s.cport.toggleG) ∧
      t.cport.toggleE = (if ch = .e then s.cport.pendingE.getD (!toggleOf (frameBytes f)) else s.cport.toggleE) ∧
      t.cport.pendingG = (if ch = .g then none else s.cport.pendingG) ∧
      t.cport.pendingE = (if ch = .e then none else s.cport.pendingE) ∧
      (∀ d : Channel, d ≠ ch → t.cport.chan d = s.cport.chan d) ∧ t = { s with cport := t.cport }) ∧
  ∀ (f : Frame) (q : List Frame) (s : State), s.mport.carrying = true → s.mport.queue = f :: q →
    exec (.attemptSent .machine) s = .next { s with mport :=
      { queue := q, carrying := false, tx := { s.mport.tx with failed := 0, drops := 0 } } }) ∧
  ∀ (p : Port) (s : State),
    exec (.attemptLost p) s = .next s ∧
    (s.carries p = true → (s.tx p).failed < 7 →
      exec (.attemptFailed p) s = .next (s.setTx p { s.tx p with failed := (s.tx p).failed + 1 })) ∧
    (s.carries p = true → (s.tx p).failed = 7 → (s.tx p).drops < 3 →
      ∃ t, exec (.attemptFailed p) s = .next t ∧ t.carries p = false ∧ t.mgt.alerts.getLsbD 6 = true ∧
        (t.tx p).failed = 0 ∧
        ((s.tx p).drops < 2 → (t.tx p).drops = (s.tx p).drops + 1 ∧ (t.tx p).silence = (s.tx p).silence) ∧
        ((s.tx p).drops = 2 → (t.tx p).drops = 0 ∧ (t.tx p).silence = some (Time.plus s.time 1000) ∧
          t.mgt.alerts.getLsbD 7 = true) ∧
        (∀ ch : Channel, p = .cab → s.cport.carrying = some ch →
          ∃ alerts, (t.cport.chan ch).queue = (s.cport.chan ch).queue.tail ++ alerts ∧ (ch ≠ .e → alerts = [])) ∧
        (p = .machine → t.mport.queue = s.mport.queue.tail) ∧
        (let x : TxState := if (s.tx p).drops = 2 then ⟨0, 0, some (Time.plus s.time 1000)⟩
           else { s.tx p with failed := 0, drops := (s.tx p).drops + 1 }
         let raised := fun (q : State) (sub : Nat) =>
           let faulted := q.afterAlert 6 sub (portCode p) s.time
           if (s.tx p).drops = 2 then faulted.afterAlert 7 15 (portCode p) s.time else faulted
         (p = .machine →
           t = raised { s with mport := { queue := s.mport.queue.tail, carrying := false, tx := x } } 15) ∧
         ∀ ch : Channel, p = .cab → s.cport.carrying = some ch →
           t = raised { s with cport := { s.cport.setChan ch { s.cport.chan ch with queue := (s.cport.chan ch).queue.tail }
             with
               carrying := none, tx := x
               toggleG := if ch = .g then s.cport.pendingG.getD s.cport.toggleG else s.cport.toggleG
               toggleE := if ch = .e then s.cport.pendingE.getD s.cport.toggleE else s.cport.toggleE
               pendingG := if ch = .g then none else s.cport.pendingG
               pendingE := if ch = .e then none else s.cport.pendingE } } ch.code) ∧
        t.fcl = s.fcl ∧ t.sig = s.sig ∧ t.din = s.din ∧ t.wen = s.wen ∧ t.cyt = s.cyt ∧ t.lac = s.lac) ∧
    ∀ e : Time, (s.tx p).silence = some e → s.reached e = true →
      exec (.silenceEnd p) s = .next (s.setTx p { s.tx p with silence := none })

/-! ### The cab port's commands and the gauge -/

/-- From R160, R161, R165, R174, R187: HOLD, RELEASE, BLOCK and UNBLOCK change one mark of the channel named and answer
OK after it; a BLOCK that sets the mark flushes all but a carried frame; an unknown channel is answered BAD_ARG.
TOGGLE_SET and TOGGLE_CLEAR force the toggle of G or E at once, or leave it pending while the transmitter carries a
frame of that channel; on P, M, C and an unknown channel they are refused BAD_ARG. -/
def Obligations.ChannelMarksAndTogglesFollowTheActions : Prop :=
  (∀ (p : Port) (tag : Byte) (ch : Channel) (s : State), s.hasRoom p = true →
    let code := BitVec.ofNat 8 ch.code
    let with' := fun x : ChannelState => { s with cport := s.cport.setChan ch x }
    exec (.hold p tag code) s = .next ((with' { s.cport.chan ch with held := true }).respond p 0x30 tag .ok []) ∧
    exec (.release p tag code) s =
      .next ((with' { s.cport.chan ch with held := false }).respond p 0x30 tag .ok []) ∧
    exec (.unblock p tag code) s =
      .next ((with' { s.cport.chan ch with blocked := false }).respond p 0x30 tag .ok []) ∧
    ((s.cport.chan ch).blocked = true → exec (.block p tag code) s = .next (s.respond p 0x30 tag .ok [])) ∧
    ((s.cport.chan ch).blocked = false → exec (.block p tag code) s =
      .next ((with' { s.cport.chan ch with
        blocked := true,
        queue := if s.cport.carrying = some ch then (s.cport.chan ch).queue.take 1 else [] }).respond
          p 0x30 tag .ok [])) ∧
    ∀ bad : Byte, 5 ≤ bad.toNat →
      exec (.hold p tag bad) s = .next (s.respond p 0x30 tag .badArg []) ∧
      exec (.release p tag bad) s = .next (s.respond p 0x30 tag .badArg []) ∧
      exec (.block p tag bad) s = .next (s.respond p 0x30 tag .badArg []) ∧
      exec (.unblock p tag bad) s = .next (s.respond p 0x30 tag .badArg [])) ∧
  ∀ (p : Port) (tag : Byte) (s : State), s.hasRoom p = true →
    let done := fun c : Cport => Host.Outcome.next (φ := Fault) (ρ := Refusal)
      ({ s with cport := c }.respond p 0x30 tag .ok [])
    let refuse := Host.Outcome.next (φ := Fault) (ρ := Refusal) (s.respond p 0x30 tag .badArg [])
    (s.cport.carrying ≠ some .g → exec (.toggleSet p tag 0) s = done { s.cport with toggleG := true } ∧
      exec (.toggleClear p tag 0) s = done { s.cport with toggleG := false }) ∧
    (s.cport.carrying = some .g → exec (.toggleSet p tag 0) s = done { s.cport with pendingG := some true } ∧
      exec (.toggleClear p tag 0) s = done { s.cport with pendingG := some false }) ∧
    (s.cport.carrying ≠ some .e → exec (.toggleSet p tag 1) s = done { s.cport with toggleE := true } ∧
      exec (.toggleClear p tag 1) s = done { s.cport with toggleE := false }) ∧
    (s.cport.carrying = some .e → exec (.toggleSet p tag 1) s = done { s.cport with pendingE := some true } ∧
      exec (.toggleClear p tag 1) s = done { s.cport with pendingE := some false }) ∧
    ∀ other : Byte, 2 ≤ other.toNat →
      exec (.toggleSet p tag other) s = refuse ∧ exec (.toggleClear p tag other) s = refuse

/-- From R81, R175, R186, R203, R204, R206: TARE arms tare in RUN and is refused REFUSED_MODE in any other mode;
SET_CAPTURE sets the budget and clears the gap flag; SET_NOTICES sets the mask; CLEAR_ALERTS clears the flags named and
answers those left, and refuses a mask of 0; SET_NODE answers under the old node and then sets the new one. Nothing else
changes. -/
def Obligations.SettingsAndTareTakeEffect : Prop :=
  (∀ (p : Port) (tag : Byte) (s : State), s.hasRoom p = true →
    (s.mgt.mode = .run → exec (.tare p tag) s =
      .next ({ s with wen := { s.wen with tareArmed := true } }.respond p 0x20 tag .ok [])) ∧
    (s.mgt.mode ≠ .run → exec (.tare p tag) s = .next (s.respond p 0x20 tag .refusedMode []))) ∧
  ∀ (p : Port) (tag node : Byte) (v : BitVec 16) (s : State), s.hasRoom p = true →
    exec (.setCapture p tag v) s =
      .next ({ s with cport := { s.cport with budget := v.toNat, gap := false } }.respond p 0x31 tag .ok []) ∧
    exec (.setNotices p tag v) s =
      .next ({ s with mgt := { s.mgt with mask := v } }.respond p 0x32 tag .ok []) ∧
    (v = 0 → exec (.clearAlerts p tag v) s = .next (s.respond p 0x33 tag .badArg [])) ∧
    (v ≠ 0 → exec (.clearAlerts p tag v) s =
      .next ({ s with mgt := { s.mgt with alerts := s.mgt.alerts &&& ~~~v } }.respond p 0x33 tag .ok
        (leBytes 2 (s.mgt.alerts &&& ~~~v).toNat))) ∧
    ∃ t, exec (.setNode p tag node) s = .next { t with mgt := { t.mgt with node := node } } ∧
      t = s.respond p 0x34 tag .ok []

/-- From R80, R141, R162, R177, R178, R212: at the gauge timer's expiry the timer restarts on the period and one GAUGE
frame, under this node's identifier and with its toggle bit clear, is queued on G, replaces the waiting one, or is
discarded behind a carried one or on a BLOCKED G. It carries the state code, the six status flags, the last cycle time,
the remaining to target, the live mass, the load total and the bucket count of the moment. -/
def Obligations.GaugeExpiryOffersOneFrame : Prop :=
  ∀ (x : Time) (r : MachineRecord) (s : State), s.cport.gauge = some x → s.reached x = true →
    s.wen.record = some r → r.gaugePeriod ≠ 0 →
    ∃ t bytes, exec .gaugeTimerExpiry s = .next t ∧ bytes.length = 8 ∧ toggleOf bytes = false ∧
      t.cport.gauge = some (Time.plus x r.gaugePeriod) ∧
      t.cport.g.queue =
        (if s.cport.g.blocked = true ∨ (s.cport.g.queue ≠ [] ∧ s.cport.carrying = some .g) then s.cport.g.queue
         else [dataFrame (0x0C7A0100#29 + s.mgt.node.setWidth 29) bytes]) ∧
      (byteAt bytes 0).toNat % 8 = (match s.mgt.mode with
        | .config => 0
        | .calibrate => 1
        | .run => 2 + s.cyt.state.code) ∧
      (byteAt bytes 7).toNat / 4 = s.lac.load.buckets.length % 32 ∧
      wordBits bytes 3 1 = (s.mgt.alerts.getLsbD 5).toNat ∧ wordBits bytes 4 1 = (s.mgt.alerts.getLsbD 10).toNat ∧
      (wordBits bytes 5 1 = 1 ↔ ∃ r, (s.sig.slot r).source ≠ .none ∧ (s.sig.slot r).state ≠ .valid) ∧
      wordBits bytes 6 1 = s.lac.load.overload.toNat ∧ wordBits bytes 7 1 = s.mgt.deferred.isSome.toNat ∧
      wordBits bytes 8 1 = s.wen.tareArmed.toNat ∧ wordBits bytes 9 6 = reduced 1000 63 s.cyt.lastCycle.toNat ∧
      (let remaining := if s.lac.load.target = 0 then -32768
         else max (-32767) (min 32767 (rdiv ((s.lac.load.target : Int) - s.lac.load.total) 10))
       wordBits bytes 15 16 = (remaining % 65536).toNat) ∧
      wordBits bytes 31 13 = reduced 10 6000 s.massShown ∧ wordBits bytes 44 14 = reduced 100 9600 s.lac.load.total ∧
      wordBits bytes 58 5 = s.lac.load.buckets.length % 32 ∧
      t.cport.e = s.cport.e ∧ t.cport.p = s.cport.p ∧ t.cport.m = s.cport.m ∧ t.cport.c = s.cport.c ∧
      t = { s with cport := t.cport }

/-! ### Queries and table entries -/

/-- From R59, R137, R141, R157, R185, R204, R213, R214: each query answers the piece of the page, the chunk of the
entry, the counter or the flags that it names, and every page and entry has the length and holds, at its offset, every
field that R213 and R214 give; it changes nothing, but that reporting part 1 of a LINES page clears that line's event
flag. What lies outside a range is answered BAD_ARG, an absent record, curve, summary or bucket EMPTY. The model's
choices are: the code of an absent item (log entry 7), BAD_ARG tested before EMPTY (8), the counter sent as it stands
(10), UNUSED on BOOM's page alone (18). -/
def Obligations.QueriesReportAndChangeNothing : Prop :=
  ∀ (p : Port) (tag a b c : Byte) (s : State), s.hasRoom p = true →
    let part := c.toNat
    (∃ st results, exec (.identify p tag a) s = .next (s.respond p 0x01 tag st results) ∧
      (a = 0 → st = .ok ∧ results = [0x18, 0x04, 0x02, s.mgt.node]) ∧
      (a = 1 → st = .ok ∧ results = [48, 16, 24, 8]) ∧ (a = 2 → st = .ok ∧ results = [16, 4, 0x00, 0x02]) ∧
      (3 ≤ a.toNat → st = .badArg ∧ results = [])) ∧
    (∃ st results t, exec (.queryStatus p tag a b c) s = .next (t.respond p 0x02 tag st results) ∧
      (a ≠ 6 ∨ c ≠ 1 ∨ 4 ≤ b.toNat → t = s) ∧
      (∀ i : Fin 4, a = 6 → b.toNat = i.val → c = 1 → t.din.lines[i] = { s.din.lines[i] with flag := false } ∧
        (∀ j : Fin 4, j ≠ i → t.din.lines[j] = s.din.lines[j]) ∧
        t = { s with din := { s.din with lines := t.din.lines } } ∧ st = .ok) ∧
      (a = 0 → c = 0 → st = .ok ∧ (results.head?).map BitVec.toNat = some s.mgt.mode.code) ∧
      (let gives := fun (page : List Byte) (length : Nat) (fields : List (Nat × List Byte)) =>
         page.length = length ∧ pageHolds page length fields ∧
         (part < (length + 4) / 5 → st = .ok ∧ results = piece page part) ∧
         ((length + 4) / 5 ≤ part → st = .badArg ∧ results = [])
       (a = 0 → gives s.generalPage 12 s.generalFields) ∧
       (∀ r, a = 1 → b.toNat = roleCode r → gives (s.rolePage r) 16 (s.roleFields r)) ∧
       (a = 2 → gives s.windowPage 52 s.windowFields) ∧ (a = 3 → gives s.resultPage 38 s.resultFields) ∧
       (a = 4 → gives s.cyclePage 36 s.cycleFields) ∧
       (a = 5 → gives s.curvesPage 18 s.curvesFields) ∧
       (∀ i : Fin 4, a = 6 → b.toNat = i.val → gives s.din.lines[i].page 17 s.din.lines[i].fields) ∧
       (a = 7 → gives s.encoderPage 11 s.encoderFields) ∧ (a = 8 → b = 0 → gives s.cabPage 40 s.cabFields) ∧
       (a = 8 → b = 1 → gives s.machinePage 9 s.machineFields) ∧ (a = 9 → gives s.managementPage 13 s.managementFields)) ∧
      (a = 1 ∧ 5 ≤ b.toNat ∨ a = 6 ∧ 4 ≤ b.toNat ∨ a = 8 ∧ 2 ≤ b.toNat ∨ 10 ≤ a.toNat →
        st = .badArg ∧ results = [])) ∧
    (∃ st results, exec (.readEntry p tag a b c) s = .next (s.respond p 0x03 tag st results) ∧
      (∀ k : Fin 48, a = 0 → b.toNat = k.val → part < 4 →
        st = .ok ∧ results = piece (encodeFat s.fcl.fat[k]) part ∧
          pageHolds (encodeFat s.fcl.fat[k]) 16 s.fcl.fat[k].fields) ∧
      (∀ k : Fin 16, a = 1 → b.toNat = k.val → part < 4 →
        st = .ok ∧ results = piece (encodeSxt s.sig.sxt[k]) part ∧
          pageHolds (encodeSxt s.sig.sxt[k]) 20 s.sig.sxt[k].fields) ∧
      (a = 2 → b = 0 → part < 13 → s.wen.record = none → st = .empty ∧ results = []) ∧
      (∀ r, a = 2 → b = 0 → part < 13 → s.wen.record = some r →
        st = .ok ∧ results = piece (encodeRecord r) part ∧ pageHolds (encodeRecord r) 64 r.fields) ∧
      (∀ curve, a = 3 ∧ curve = s.wen.curveE ∨ a = 4 ∧ curve = s.wen.curveL → b.toNat < 24 → part = 0 →
        (curve = none → st = .empty ∧ results = []) ∧
        (∀ v, curve = some v → st = .ok ∧ results = leInt 4 (v.getD b.toNat 0) ++ [0])) ∧
      (∀ k : Fin 8, a = 5 → b.toNat = k.val → part = 0 → st = .ok ∧ results =
        leBytes 2 s.wen.bands[k].upper ++ leInt 2 s.wen.bands[k].correction ++ [0]) ∧
      (∀ k : Fin 16, a = 6 → b.toNat = k.val → part = 0 →
        st = .ok ∧ results = leBytes 2 s.lac.materials[k] ++ [0, 0, 0]) ∧
      (∀ k : Fin 4, a = 7 → b.toNat = k.val → part = 0 →
        st = .ok ∧ results = piece (encodeLine s.din.lines[k]) 0 ∧
          pageHolds (encodeLine s.din.lines[k]) 4 s.din.lines[k].entryFields) ∧
      (∀ k : Table, a.toNat = k.code → k.entries ≤ b.toNat ∨ k.bytes ≤ 5 * part → st = .badArg ∧ results = []) ∧
      (8 ≤ a.toNat → st = .badArg ∧ results = [])) ∧
    (∃ st results, exec (.queryLoad p tag a b c) s = .next (s.respond p 0x04 tag st results) ∧
      (9 ≤ a.toNat ∨ 17 ≤ b.toNat ∨ (b = 0 ∧ 5 ≤ part) ∨ (b ≠ 0 ∧ 4 ≤ part) → st = .badArg ∧ results = []) ∧
      (a.toNat ≤ 8 → b.toNat ≤ 16 → (b = 0 → part < 5) → (b ≠ 0 → part < 4) →
        (s.lac.completed.length < a.toNat → st = .empty ∧ results = []) ∧
        ∀ (l : Load) (closing : Option (Time × ClosedBy)),
          (a = 0 ∧ l = s.lac.load ∧ closing = none ∨
            ∃ x, 1 ≤ a.toNat ∧ s.lac.completed.reverse[a.toNat - 1]? = some x ∧ l = x.load ∧
              closing = some (x.closeTime, x.closedBy)) →
          (b = 0 → st = .ok ∧ results = piece (l.header closing) part ∧
            pageHolds (l.header closing) 25 (l.headerFields closing)) ∧
          (∀ k : BucketRecord, b ≠ 0 → l.buckets[b.toNat - 1]? = some k →
            st = .ok ∧ results = piece k.page part ∧ pageHolds k.page 17 k.fields) ∧
          (b ≠ 0 → l.buckets.length < b.toNat → st = .empty ∧ results = []))) ∧
    (∃ st results, exec (.queryTotals p tag a b) s = .next (s.respond p 0x05 tag st results) ∧
      (∀ k : Fin 16, a.toNat = k.val →
        let m := s.lac.totals.materials[k]
        (b = 0 → st = .ok ∧ results = leBytes 4 m.trucks) ∧ (b = 1 → st = .ok ∧ results = leBytes 4 m.buckets) ∧
        (b = 2 → st = .ok ∧ results = leBytes 4 m.unweighed) ∧ (b = 3 → st = .ok ∧ results = leBytes 4 m.mass)) ∧
      (a = 16 → b = 0 → st = .ok ∧ results = leBytes 4 s.lac.totals.cycles) ∧
      (a = 16 → b = 1 → st = .ok ∧ results = leBytes 4 s.lac.totals.returned) ∧
      (a = 16 → b = 2 → st = .ok ∧ results = leBytes 4 s.lac.totals.tarePasses) ∧
      (a = 16 → b = 3 → st = .ok ∧ results = leBytes 4 s.lac.totals.shiftStart.toNat) ∧
      (17 ≤ a.toNat ∨ 4 ≤ b.toNat → st = .badArg ∧ results = [])) ∧
    exec (.readAlerts p tag) s = .next (s.respond p 0x06 tag .ok
      (leBytes 2 s.mgt.alerts.toNat ++ leBytes 2 s.mgt.mask.toNat))

/-- From R13, R25, R43, R144, R214: an entry that passes its table's checks is read back, from the bytes that READ_ENTRY
gives, as the entry it is. -/
def Obligations.EntriesReadBackAsStored : Prop :=
  (∀ e : FatEntry, e.ok = true → e.interval % 10 = 0 → decodeFat (encodeFat e) = some e) ∧
  (∀ e : SxtEntry, e.ok = true → -32768 ≤ e.multiplier → e.multiplier ≤ 32767 → decodeSxt (encodeSxt e) = some e) ∧
  (∀ r : MachineRecord, r.ok = true → decodeRecord (encodeRecord r) = some r) ∧
  (∀ v : Int, curveOk v = true → decodeCurve (encodeCurve v) = some v) ∧
  (∀ b : Band, b.upper ≤ 65535 → -32768 ≤ b.correction → b.correction ≤ 32767 →
    decodeBand (encodeBand b) = some b) ∧
  (∀ rho : Nat, rho ≤ 65535 → decodeMaterial (encodeMaterial rho) = some rho) ∧
  ∀ l : Line, l.debounce ≤ 65535 → decodeLine (encodeLine l) = some ⟨l.function, l.edge, l.debounce⟩

/-! ### Table loads -/

/-- From R52, R188, R190, R191: OPEN_LOAD that passes its checks claims the buffer for the port, empty, with the
declared total, and answers the total and the number of LOAD_DATA frames; the first check that fails gives the status
and leaves the assembly as it was. A curve load needs a PRESENT record, index 0 and N entries. LOAD_DATA is answered
NO_LOAD, OWNED or LOAD_FAILED without effect; a broken sequence or bytes past the total make the load FAILED, and an
accepted frame appends its payload up to the total, advances the expected number and moves the timeout. -/
def Obligations.OpenLoadAndLoadDataFillTheBuffer : Prop :=
  (∀ (p : Port) (tag table first count : Byte) (s : State), s.hasRoom p = true →
    (8 ≤ table.toNat → exec (.openLoad p tag table first count) s = .next (s.respond p 0x11 tag .badArg [])) ∧
    ∀ k : Table, table.toNat = k.code →
      (∀ a, s.mgt.assembly = some a → a.owner ≠ p →
        exec (.openLoad p tag table first count) s = .next (s.respond p 0x11 tag .owned [])) ∧
      ((∀ a, s.mgt.assembly = some a → a.owner = p) → s.mgt.mode ≠ .config → k ≠ .material →
        exec (.openLoad p tag table first count) s = .next (s.respond p 0x11 tag .refusedMode [])) ∧
      ((∀ a, s.mgt.assembly = some a → a.owner = p) → s.mgt.mode = .config ∨ k = .material →
        (count = 0 ∨ k.entries < first.toNat + count.toNat ∨ 512 < count.toNat * k.bytes →
          exec (.openLoad p tag table first count) s = .next (s.respond p 0x11 tag .badArg [])) ∧
        (count ≠ 0 → first.toNat + count.toNat ≤ k.entries → count.toNat * k.bytes ≤ 512 →
          let curve := k = .curveE ∨ k = .curveL
          let opened : Assembly :=
            { failed := false, owner := p, table := k, first := first.toNat, count := count.toNat,
              declared := count.toNat * k.bytes, received := [], expected := 0, timeout := Time.plus s.time 500 }
          (curve → s.wen.record = none →
            exec (.openLoad p tag table first count) s = .next (s.respond p 0x11 tag .notReady [1])) ∧
          (∀ r, curve → s.wen.record = some r → first ≠ 0 ∨ count.toNat ≠ r.n →
            exec (.openLoad p tag table first count) s = .next (s.respond p 0x11 tag .badArg [])) ∧
          (¬ curve ∨ (∃ r, s.wen.record = some r ∧ first = 0 ∧ count.toNat = r.n) →
            exec (.openLoad p tag table first count) s =
              .next ({ s with mgt := { s.mgt with assembly := some opened } }.respond p 0x11 tag .ok
                (leBytes 2 (count.toNat * k.bytes) ++ leBytes 1 ((count.toNat * k.bytes + 4) / 5))))))) ∧
  ∀ (p : Port) (tag seq : Byte) (payload : Vector Byte 5) (s : State), s.hasRoom p = true →
    (s.mgt.assembly = none →
      exec (.loadData p tag seq payload) s = .next (s.respond p 0x12 tag .noLoad [])) ∧
    ∀ a, s.mgt.assembly = some a →
      (a.owner ≠ p → exec (.loadData p tag seq payload) s = .next (s.respond p 0x12 tag .owned [])) ∧
      (a.owner = p → a.failed = true → exec (.loadData p tag seq payload) s =
        .next (s.respond p 0x12 tag .loadFailed (leBytes 2 a.received.length ++ [a.expected]))) ∧
      (a.owner = p → a.failed = false → seq ≠ a.expected ∨ a.received.length = a.declared →
        exec (.loadData p tag seq payload) s =
          .next ({ s with mgt := { s.mgt with assembly := some { a with failed := true } } }.respond p 0x12 tag
            .loadFailed (leBytes 2 a.received.length ++ [a.expected]))) ∧
      (a.owner = p → a.failed = false → seq = a.expected → a.received.length < a.declared →
        let bytes := a.received ++ payload.toList.take (min 5 (a.declared - a.received.length))
        let grown : Assembly :=
          { a with received := bytes, expected := a.expected + 1, timeout := Time.plus s.time 500 }
        exec (.loadData p tag seq payload) s =
          .next ({ s with mgt := { s.mgt with assembly := some grown } }.respond p 0x12 tag .ok
            (leBytes 2 bytes.length ++ [a.expected + 1])))

/-- From R192, R193, R195: CLOSE_LOAD by the assembly and its checks in order; a load that passes them all frees the
buffer, writes the run (shown here for a MATERIAL run of one entry) and is answered OK; the timeout frees a load and
does nothing else. -/
def Obligations.CloseLoadChecksInOrder : Prop :=
  (∀ (a : Assembly) (s : State), s.mgt.assembly = some a → s.reached a.timeout = true →
    exec .loadTimeout s = .next { s with mgt := { s.mgt with assembly := none } }) ∧
  ∀ (p : Port) (tag crc : Byte) (s : State), s.hasRoom p = true →
    (s.mgt.assembly = none → exec (.closeLoad p tag crc) s = .next (s.respond p 0x13 tag .noLoad [])) ∧
    ∀ a, s.mgt.assembly = some a →
      (a.owner ≠ p → exec (.closeLoad p tag crc) s = .next (s.respond p 0x13 tag .owned [])) ∧
      (a.owner = p → a.failed = true → exec (.closeLoad p tag crc) s =
        .next (s.respond p 0x13 tag .loadFailed (leBytes 2 a.received.length ++ [a.expected]))) ∧
      (a.owner = p → a.failed = false →
        (s.mgt.mode ≠ .config → a.table ≠ .material → exec (.closeLoad p tag crc) s =
          .next ({ s with mgt := { s.mgt with assembly := none } }.respond p 0x13 tag .refusedMode [])) ∧
        (s.mgt.mode = .config ∨ a.table = .material →
          (a.received.length ≠ a.declared → exec (.closeLoad p tag crc) s =
            .next ({ s with mgt := { s.mgt with assembly := some { a with failed := true } } }.respond p 0x13 tag
              .loadFailed (leBytes 2 a.received.length ++ [a.expected]))) ∧
          (a.received.length = a.declared → crc8 a.received ≠ crc → exec (.closeLoad p tag crc) s =
            .next ({ s with mgt := { s.mgt with assembly := some { a with failed := true } } }.respond p 0x13 tag
              .checkFailed [])) ∧
          (a.received.length = a.declared → crc8 a.received = crc → a.table = .material → a.count = 1 →
            a.declared = 4 → ∀ k : Fin 16, a.first = k.val →
            let rho := leNat (a.received.take 2)
            (rho ≠ 0 → 500 ≤ rho → rho ≤ 5000 → exec (.closeLoad p tag crc) s =
              .next ({ s with mgt := { s.mgt with assembly := none },
                              lac := { s.lac with materials := s.lac.materials.set k rho } }.respond
                p 0x13 tag .ok [])) ∧
            (rho ≠ 0 ∧ rho < 500 ∨ 5000 < rho → exec (.closeLoad p tag crc) s =
              .next ({ s with mgt := { s.mgt with assembly := none } }.respond p 0x13 tag .badEntry
                [BitVec.ofNat 8 k.val])))))

/-- From R13, R20, R65, R126, R127, R144, R145, R149, R153, R193, R196: a CLOSE_LOAD that passed checks 1 to 3 frees the
buffer. A run whose every entry passes its table's checks replaces the entries from its first index on, and only those,
with the table's consequences, and is answered OK: FAT empties every holding slot and stops every timer; BANDS is
checked as the table would stand; MATERIAL may write 0 but over a used material in use; LINES re-reads all four lines
without edges and settles SERVICE and the power state. Else the first entry that breaks a check is answered BAD_ENTRY
and nothing is written. -/
def Obligations.CloseLoadWritesItsRun : Prop :=
  ∀ (p : Port) (tag crc : Byte) (a : Assembly) (s : State), s.hasRoom p = true → s.ReadyToClose p crc a →
    let freed : State := { s with mgt := { s.mgt with assembly := none } }
    let ends := fun (q : State) (st : Status) (results : List Byte) =>
      exec (.closeLoad p tag crc) s = .next (q.respond p 0x13 tag st results)
    let breaks := fun j : Nat => ends freed .badEntry [BitVec.ofNat 8 (a.first + j)]
    (a.table = .fat →
      let ok := fun (_ : Nat) (e : FatEntry) =>
        e.interval ≤ 2550 ∧ (e.extract = true → e.ref1 ≠ none ∨ e.ref2 ≠ none) ∧
        (e.extract = false → e.ref1 = none ∧ e.ref2 = none) ∧ (e.ref1 ≠ none → e.ref1 ≠ e.ref2) ∧
        (e.forward = false → e.interval = 0)
      (∀ j, a.BreaksAt decodeFat ok j → breaks j) ∧
      ∀ xs, a.Holds decodeFat ok xs → ∃ fat : Vector FatEntry 48,
        (∀ i : Fin 48, fat[i] =
          if a.first ≤ i.val then xs.getD (i.val - a.first) s.fcl.fat[i] else s.fcl.fat[i]) ∧
        ends { freed with fcl := { s.fcl with fat := fat, held := Vector.replicate 48 none,
                                              timers := Vector.replicate 48 none } } .ok []) ∧
    (a.table = .bands →
      ∀ (xs : List Band) (bands : Vector Band 8), a.Holds decodeBand (fun _ _ => True) xs →
        (∀ i : Fin 8, bands[i] =
          if a.first ≤ i.val then xs.getD (i.val - a.first) s.wen.bands[i] else s.wen.bands[i]) →
        ((∀ k, bandAllowed bands k) → ends { freed with wen := { s.wen with bands := bands } } .ok []) ∧
        ∀ k : Fin 8, ¬ bandAllowed bands k → (∀ j : Fin 8, j < k → bandAllowed bands j) →
          ends freed .badEntry [BitVec.ofNat 8 k.val]) ∧
    (a.table = .material →
      let ok := fun (i rho : Nat) => 500 ≤ rho ∧ rho ≤ 5000 ∨ rho = 0 ∧ ∀ k : Fin 16, k.val = i →
        s.lac.load.material = k ∨ s.lac.nextMaterial = some k → s.lac.materials[k] = 0
      (∀ j, a.first + a.count ≤ 16 → a.BreaksAt decodeMaterial ok j → breaks j) ∧
      ∀ xs, a.first + a.count ≤ 16 → a.Holds decodeMaterial ok xs → ∃ materials : Vector Nat 16,
        (∀ i : Fin 16, materials[i] =
          if a.first ≤ i.val then xs.getD (i.val - a.first) s.lac.materials[i] else s.lac.materials[i]) ∧
        ends { freed with lac := { s.lac with materials := materials } } .ok []) ∧
    (a.table = .lines →
      let ok := fun (_ : Nat) (l : LineSetting) => 10 ≤ l.debounce ∧ l.debounce ≤ 500 ∧ l.debounce % 10 = 0
      (∀ j, a.BreaksAt decodeLine ok j → breaks j) ∧
      ∀ xs, a.Holds decodeLine ok xs → ∃ (lines : Vector Line 4) (service : Bool),
        (∀ i : Fin 4, lines[i] =
          let l := s.din.lines[i]
          match if a.first ≤ i.val then xs[i.val - a.first]? else none with
          | some x => { l with function := x.function, edge := x.edge, debounce := x.debounce, debounced := l.raw,
                               stability := none }
          | none => { l with debounced := l.raw, stability := none }) ∧
        (service = true ↔ ∃ i : Fin 4, lines[i].function = .service ∧ lines[i].debounced = true) ∧
        let q : State := { freed with din := { s.din with lines := lines, service := service } }
        let keyOff := ∃ i : Fin 4, lines[i].function = .key ∧ lines[i].debounced = false
        (s.din.power = .running → keyOff → ends (q.park s.time) .ok []) ∧
        (s.din.power = .parked → ¬ keyOff → ends (q.wake s.time) .ok []) ∧
        (s.din.power = .running ∧ ¬ keyOff ∨ s.din.power = .parked ∧ keyOff → ends q .ok []))

/-- From R23, R25 to R28, R42 to R44, R49 to R53, R177, R193: after checks 1 to 3, an SXT run that passes its checks and
leaves no role to two enabled entries is written and every slot set anew from the source that R23 gives it; else
BAD_ENTRY, or CONFLICT with the highest entry of the conflict whose lowest entry comes first (log entry 9). A MACHINE
load makes the record PRESENT, keeps the curves on an unchanged grid alone, takes the frame policies, sets every slot
anew and restarts the gauge timer. A curve load replaces that curve whole and raises CAL_INVALID at the lowest index
where the two lie less than 50 daN apart. -/
def Obligations.CloseLoadSettlesSignalsAndCurves : Prop :=
  (∀ (sxt : Vector SxtEntry 16) (rec : Option MachineRecord) (r : Role),
    let encoder := r = .boom ∧ ∃ m, rec = some m ∧ m.boomSource = .encoder
    let feeds := fun i : Fin 16 => sxt[i].enabled = true ∧ sxt[i].role = r
    (encoder → sourceOf sxt rec r = .encoder) ∧
    (¬ encoder → (∀ i, feeds i → (∀ j, j < i → ¬ feeds j) → sourceOf sxt rec r = .sxt i) ∧
      ((∀ i, ¬ feeds i) → sourceOf sxt rec r = .none))) ∧
  ∀ (p : Port) (tag crc : Byte) (a : Assembly) (s : State), s.hasRoom p = true → s.ReadyToClose p crc a →
    let freed : State := { s with mgt := { s.mgt with assembly := none } }
    let ends := fun (q : State) (st : Status) (results : List Byte) =>
      exec (.closeLoad p tag crc) s = .next (q.respond p 0x13 tag st results)
    let breaks := fun j : Nat => ends freed .badEntry [BitVec.ofNat 8 (a.first + j)]
    let settled := fun (sxt : Vector SxtEntry 16) (rec : Option MachineRecord) =>
      let anew := fun r => slotOfSource sxt s.din.power s.time (sourceOf sxt rec r)
      ({ sxt := sxt, head := anew .head, rod := anew .rod, boom := anew .boom, pitch := anew .pitch, tilt := anew .tilt,
         omega := none, prevBoom := none } : Sig)
    (a.table = .sxt →
      let ok := fun (_ : Nat) (e : SxtEntry) =>
        e.start ≤ 63 ∧ 1 ≤ e.length ∧ e.length ≤ 32 ∧ fieldFits e.order e.start e.length = true ∧
        1 ≤ e.divisor ∧ e.divisor ≤ 32767 ∧ -1000000 ≤ e.offset ∧ e.offset ≤ 1000000 ∧
        -1000000 ≤ e.plausMin ∧ e.plausMin ≤ e.plausMax ∧ e.plausMax ≤ 1000000 ∧
        10 ≤ e.timeout ∧ e.timeout ≤ 2550 ∧ e.timeout % 10 = 0
      (∀ j, a.BreaksAt decodeSxt ok j → breaks j) ∧
      ∀ (xs : List SxtEntry) (sxt : Vector SxtEntry 16), a.Holds decodeSxt ok xs →
        (∀ i : Fin 16, sxt[i] =
          if a.first ≤ i.val then xs.getD (i.val - a.first) s.sig.sxt[i] else s.sig.sxt[i]) →
        let same := fun i j : Fin 16 =>
          sxt[i].enabled = true ∧ sxt[j].enabled = true ∧ sxt[i].role = sxt[j].role
        ((∀ i j, same i j → i = j) → ends { freed with sig := settled sxt s.wen.record } .ok []) ∧
        ∀ i j : Fin 16, i ≠ j → same i j → (∀ k l, k < i → same k l → k = l) → (∀ k, same i k → k ≤ j) →
          ends freed .conflict [BitVec.ofNat 8 j.val]) ∧
    (a.table = .machine →
      (∀ j, a.BreaksAt decodeRecord (fun _ r => r.ok = true) j → breaks j) ∧
      ∀ r, a.Holds decodeRecord (fun _ r => r.ok = true) [r] → ∃ e l : Option (List Int),
        (let sameGrid := ∃ o, s.wen.record = some o ∧ o.theta0 = r.theta0 ∧ o.dTheta = r.dTheta ∧ o.n = r.n
         (sameGrid → e = s.wen.curveE ∧ l = s.wen.curveL) ∧ (¬ sameGrid → e = none ∧ l = none)) ∧
        ends { freed with
          wen := { s.wen with record := some r, curveE := e, curveL := l }
          fcl := { s.fcl with zones := r.zones, standard := r.standard }
          sig := settled s.sig.sxt (some r)
          cport := { s.cport with
            gauge := if r.gaugePeriod ≠ 0 ∧ s.din.power = .running then some (Time.plus s.time r.gaugePeriod)
              else none } } .ok []) ∧
    (a.table = .curveE ∨ a.table = .curveL →
      let ok := fun (_ : Nat) (v : Int) => -524280 ≤ v ∧ v ≤ 524280
      (∀ j, a.BreaksAt decodeCurve ok j → breaks j) ∧
      ∀ xs, a.Holds decodeCurve ok xs →
        let q : State := { freed with wen :=
          if a.table = .curveE then { s.wen with curveE := some xs } else { s.wen with curveL := some xs } }
        (q.wen.curveE = none ∨ q.wen.curveL = none → ends q .ok []) ∧
        ∀ e l, q.wen.curveE = some e → q.wen.curveL = some l →
          ((∀ i, i < e.length → i < l.length → 50 ≤ l.getD i 0 - e.getD i 0) → ends q .ok []) ∧
          ∀ i, i < e.length → i < l.length → l.getD i 0 - e.getD i 0 < 50 →
            (∀ j, j < i → 50 ≤ l.getD j 0 - e.getD j 0) → ends (q.raiseAlert .calInvalid i s.time) .ok [])

/-- R194: ABORT_LOAD frees the owner's load, OPEN or FAILED, and is answered OK; from the other port it is answered
OWNED, and on a FREE assembly NO_LOAD, and neither changes the assembly; no table changes. -/
def Obligations.AbortLoadFreesTheOwnersLoad : Prop :=
  ∀ (p : Port) (tag : Byte) (s : State), s.hasRoom p = true →
    (s.mgt.assembly = none → exec (.abortLoad p tag) s = .next (s.respond p 0x14 tag .noLoad [])) ∧
    ∀ a, s.mgt.assembly = some a →
      (a.owner = p → exec (.abortLoad p tag) s =
        .next ({ s with mgt := { s.mgt with assembly := none } }.respond p 0x14 tag .ok [])) ∧
      (a.owner ≠ p → exec (.abortLoad p tag) s = .next (s.respond p 0x14 tag .owned []))

end
end

