-- ==== Sys2Proof/Laws/State.lean ====
section
/-! SUPPORT. What each update of State leaves and changes: one lemma per field per update, so that no later proof unfolds
a record update; and the slots and channels read back after they are set. -/

namespace Sys2Proof.Machine

/-! ### modMport -/

@[simp] theorem State.modMport_time (f : Mport → Mport) (s : State) : (s.modMport f).time = s.time := rfl
@[simp] theorem State.modMport_baud (f : Mport → Mport) (s : State) : (s.modMport f).baud = s.baud := rfl
@[simp] theorem State.modMport_mport (f : Mport → Mport) (s : State) : (s.modMport f).mport = f s.mport := rfl
@[simp] theorem State.modMport_fcl (f : Mport → Mport) (s : State) : (s.modMport f).fcl = s.fcl := rfl
@[simp] theorem State.modMport_sig (f : Mport → Mport) (s : State) : (s.modMport f).sig = s.sig := rfl
@[simp] theorem State.modMport_din (f : Mport → Mport) (s : State) : (s.modMport f).din = s.din := rfl
@[simp] theorem State.modMport_wen (f : Mport → Mport) (s : State) : (s.modMport f).wen = s.wen := rfl
@[simp] theorem State.modMport_cyt (f : Mport → Mport) (s : State) : (s.modMport f).cyt = s.cyt := rfl
@[simp] theorem State.modMport_lac (f : Mport → Mport) (s : State) : (s.modMport f).lac = s.lac := rfl
@[simp] theorem State.modMport_cport (f : Mport → Mport) (s : State) : (s.modMport f).cport = s.cport := rfl
@[simp] theorem State.modMport_mgt (f : Mport → Mport) (s : State) : (s.modMport f).mgt = s.mgt := rfl
@[simp] theorem State.modMport_freeCount (f : Mport → Mport) (s : State) : (s.modMport f).freeCount = s.freeCount := rfl
@[simp] theorem State.modMport_pending (f : Mport → Mport) (s : State) : (s.modMport f).pending = s.pending := rfl

/-! ### modFcl -/

@[simp] theorem State.modFcl_time (f : Fcl → Fcl) (s : State) : (s.modFcl f).time = s.time := rfl
@[simp] theorem State.modFcl_baud (f : Fcl → Fcl) (s : State) : (s.modFcl f).baud = s.baud := rfl
@[simp] theorem State.modFcl_mport (f : Fcl → Fcl) (s : State) : (s.modFcl f).mport = s.mport := rfl
@[simp] theorem State.modFcl_fcl (f : Fcl → Fcl) (s : State) : (s.modFcl f).fcl = f s.fcl := rfl
@[simp] theorem State.modFcl_sig (f : Fcl → Fcl) (s : State) : (s.modFcl f).sig = s.sig := rfl
@[simp] theorem State.modFcl_din (f : Fcl → Fcl) (s : State) : (s.modFcl f).din = s.din := rfl
@[simp] theorem State.modFcl_wen (f : Fcl → Fcl) (s : State) : (s.modFcl f).wen = s.wen := rfl
@[simp] theorem State.modFcl_cyt (f : Fcl → Fcl) (s : State) : (s.modFcl f).cyt = s.cyt := rfl
@[simp] theorem State.modFcl_lac (f : Fcl → Fcl) (s : State) : (s.modFcl f).lac = s.lac := rfl
@[simp] theorem State.modFcl_cport (f : Fcl → Fcl) (s : State) : (s.modFcl f).cport = s.cport := rfl
@[simp] theorem State.modFcl_mgt (f : Fcl → Fcl) (s : State) : (s.modFcl f).mgt = s.mgt := rfl
@[simp] theorem State.modFcl_freeCount (f : Fcl → Fcl) (s : State) : (s.modFcl f).freeCount = s.freeCount := rfl
@[simp] theorem State.modFcl_pending (f : Fcl → Fcl) (s : State) : (s.modFcl f).pending = s.pending := rfl

/-! ### modSig -/

@[simp] theorem State.modSig_time (f : Sig → Sig) (s : State) : (s.modSig f).time = s.time := rfl
@[simp] theorem State.modSig_baud (f : Sig → Sig) (s : State) : (s.modSig f).baud = s.baud := rfl
@[simp] theorem State.modSig_mport (f : Sig → Sig) (s : State) : (s.modSig f).mport = s.mport := rfl
@[simp] theorem State.modSig_fcl (f : Sig → Sig) (s : State) : (s.modSig f).fcl = s.fcl := rfl
@[simp] theorem State.modSig_sig (f : Sig → Sig) (s : State) : (s.modSig f).sig = f s.sig := rfl
@[simp] theorem State.modSig_din (f : Sig → Sig) (s : State) : (s.modSig f).din = s.din := rfl
@[simp] theorem State.modSig_wen (f : Sig → Sig) (s : State) : (s.modSig f).wen = s.wen := rfl
@[simp] theorem State.modSig_cyt (f : Sig → Sig) (s : State) : (s.modSig f).cyt = s.cyt := rfl
@[simp] theorem State.modSig_lac (f : Sig → Sig) (s : State) : (s.modSig f).lac = s.lac := rfl
@[simp] theorem State.modSig_cport (f : Sig → Sig) (s : State) : (s.modSig f).cport = s.cport := rfl
@[simp] theorem State.modSig_mgt (f : Sig → Sig) (s : State) : (s.modSig f).mgt = s.mgt := rfl
@[simp] theorem State.modSig_freeCount (f : Sig → Sig) (s : State) : (s.modSig f).freeCount = s.freeCount := rfl
@[simp] theorem State.modSig_pending (f : Sig → Sig) (s : State) : (s.modSig f).pending = s.pending := rfl

/-! ### modDin -/

@[simp] theorem State.modDin_time (f : Din → Din) (s : State) : (s.modDin f).time = s.time := rfl
@[simp] theorem State.modDin_baud (f : Din → Din) (s : State) : (s.modDin f).baud = s.baud := rfl
@[simp] theorem State.modDin_mport (f : Din → Din) (s : State) : (s.modDin f).mport = s.mport := rfl
@[simp] theorem State.modDin_fcl (f : Din → Din) (s : State) : (s.modDin f).fcl = s.fcl := rfl
@[simp] theorem State.modDin_sig (f : Din → Din) (s : State) : (s.modDin f).sig = s.sig := rfl
@[simp] theorem State.modDin_din (f : Din → Din) (s : State) : (s.modDin f).din = f s.din := rfl
@[simp] theorem State.modDin_wen (f : Din → Din) (s : State) : (s.modDin f).wen = s.wen := rfl
@[simp] theorem State.modDin_cyt (f : Din → Din) (s : State) : (s.modDin f).cyt = s.cyt := rfl
@[simp] theorem State.modDin_lac (f : Din → Din) (s : State) : (s.modDin f).lac = s.lac := rfl
@[simp] theorem State.modDin_cport (f : Din → Din) (s : State) : (s.modDin f).cport = s.cport := rfl
@[simp] theorem State.modDin_mgt (f : Din → Din) (s : State) : (s.modDin f).mgt = s.mgt := rfl
@[simp] theorem State.modDin_freeCount (f : Din → Din) (s : State) : (s.modDin f).freeCount = s.freeCount := rfl
@[simp] theorem State.modDin_pending (f : Din → Din) (s : State) : (s.modDin f).pending = s.pending := rfl

/-! ### modWen -/

@[simp] theorem State.modWen_time (f : Wen → Wen) (s : State) : (s.modWen f).time = s.time := rfl
@[simp] theorem State.modWen_baud (f : Wen → Wen) (s : State) : (s.modWen f).baud = s.baud := rfl
@[simp] theorem State.modWen_mport (f : Wen → Wen) (s : State) : (s.modWen f).mport = s.mport := rfl
@[simp] theorem State.modWen_fcl (f : Wen → Wen) (s : State) : (s.modWen f).fcl = s.fcl := rfl
@[simp] theorem State.modWen_sig (f : Wen → Wen) (s : State) : (s.modWen f).sig = s.sig := rfl
@[simp] theorem State.modWen_din (f : Wen → Wen) (s : State) : (s.modWen f).din = s.din := rfl
@[simp] theorem State.modWen_wen (f : Wen → Wen) (s : State) : (s.modWen f).wen = f s.wen := rfl
@[simp] theorem State.modWen_cyt (f : Wen → Wen) (s : State) : (s.modWen f).cyt = s.cyt := rfl
@[simp] theorem State.modWen_lac (f : Wen → Wen) (s : State) : (s.modWen f).lac = s.lac := rfl
@[simp] theorem State.modWen_cport (f : Wen → Wen) (s : State) : (s.modWen f).cport = s.cport := rfl
@[simp] theorem State.modWen_mgt (f : Wen → Wen) (s : State) : (s.modWen f).mgt = s.mgt := rfl
@[simp] theorem State.modWen_freeCount (f : Wen → Wen) (s : State) : (s.modWen f).freeCount = s.freeCount := rfl
@[simp] theorem State.modWen_pending (f : Wen → Wen) (s : State) : (s.modWen f).pending = s.pending := rfl

/-! ### modCyt -/

@[simp] theorem State.modCyt_time (f : Cyt → Cyt) (s : State) : (s.modCyt f).time = s.time := rfl
@[simp] theorem State.modCyt_baud (f : Cyt → Cyt) (s : State) : (s.modCyt f).baud = s.baud := rfl
@[simp] theorem State.modCyt_mport (f : Cyt → Cyt) (s : State) : (s.modCyt f).mport = s.mport := rfl
@[simp] theorem State.modCyt_fcl (f : Cyt → Cyt) (s : State) : (s.modCyt f).fcl = s.fcl := rfl
@[simp] theorem State.modCyt_sig (f : Cyt → Cyt) (s : State) : (s.modCyt f).sig = s.sig := rfl
@[simp] theorem State.modCyt_din (f : Cyt → Cyt) (s : State) : (s.modCyt f).din = s.din := rfl
@[simp] theorem State.modCyt_wen (f : Cyt → Cyt) (s : State) : (s.modCyt f).wen = s.wen := rfl
@[simp] theorem State.modCyt_cyt (f : Cyt → Cyt) (s : State) : (s.modCyt f).cyt = f s.cyt := rfl
@[simp] theorem State.modCyt_lac (f : Cyt → Cyt) (s : State) : (s.modCyt f).lac = s.lac := rfl
@[simp] theorem State.modCyt_cport (f : Cyt → Cyt) (s : State) : (s.modCyt f).cport = s.cport := rfl
@[simp] theorem State.modCyt_mgt (f : Cyt → Cyt) (s : State) : (s.modCyt f).mgt = s.mgt := rfl
@[simp] theorem State.modCyt_freeCount (f : Cyt → Cyt) (s : State) : (s.modCyt f).freeCount = s.freeCount := rfl
@[simp] theorem State.modCyt_pending (f : Cyt → Cyt) (s : State) : (s.modCyt f).pending = s.pending := rfl

/-! ### modLac -/

@[simp] theorem State.modLac_time (f : Lac → Lac) (s : State) : (s.modLac f).time = s.time := rfl
@[simp] theorem State.modLac_baud (f : Lac → Lac) (s : State) : (s.modLac f).baud = s.baud := rfl
@[simp] theorem State.modLac_mport (f : Lac → Lac) (s : State) : (s.modLac f).mport = s.mport := rfl
@[simp] theorem State.modLac_fcl (f : Lac → Lac) (s : State) : (s.modLac f).fcl = s.fcl := rfl
@[simp] theorem State.modLac_sig (f : Lac → Lac) (s : State) : (s.modLac f).sig = s.sig := rfl
@[simp] theorem State.modLac_din (f : Lac → Lac) (s : State) : (s.modLac f).din = s.din := rfl
@[simp] theorem State.modLac_wen (f : Lac → Lac) (s : State) : (s.modLac f).wen = s.wen := rfl
@[simp] theorem State.modLac_cyt (f : Lac → Lac) (s : State) : (s.modLac f).cyt = s.cyt := rfl
@[simp] theorem State.modLac_lac (f : Lac → Lac) (s : State) : (s.modLac f).lac = f s.lac := rfl
@[simp] theorem State.modLac_cport (f : Lac → Lac) (s : State) : (s.modLac f).cport = s.cport := rfl
@[simp] theorem State.modLac_mgt (f : Lac → Lac) (s : State) : (s.modLac f).mgt = s.mgt := rfl
@[simp] theorem State.modLac_freeCount (f : Lac → Lac) (s : State) : (s.modLac f).freeCount = s.freeCount := rfl
@[simp] theorem State.modLac_pending (f : Lac → Lac) (s : State) : (s.modLac f).pending = s.pending := rfl

/-! ### modCport -/

@[simp] theorem State.modCport_time (f : Cport → Cport) (s : State) : (s.modCport f).time = s.time := rfl
@[simp] theorem State.modCport_baud (f : Cport → Cport) (s : State) : (s.modCport f).baud = s.baud := rfl
@[simp] theorem State.modCport_mport (f : Cport → Cport) (s : State) : (s.modCport f).mport = s.mport := rfl
@[simp] theorem State.modCport_fcl (f : Cport → Cport) (s : State) : (s.modCport f).fcl = s.fcl := rfl
@[simp] theorem State.modCport_sig (f : Cport → Cport) (s : State) : (s.modCport f).sig = s.sig := rfl
@[simp] theorem State.modCport_din (f : Cport → Cport) (s : State) : (s.modCport f).din = s.din := rfl
@[simp] theorem State.modCport_wen (f : Cport → Cport) (s : State) : (s.modCport f).wen = s.wen := rfl
@[simp] theorem State.modCport_cyt (f : Cport → Cport) (s : State) : (s.modCport f).cyt = s.cyt := rfl
@[simp] theorem State.modCport_lac (f : Cport → Cport) (s : State) : (s.modCport f).lac = s.lac := rfl
@[simp] theorem State.modCport_cport (f : Cport → Cport) (s : State) : (s.modCport f).cport = f s.cport := rfl
@[simp] theorem State.modCport_mgt (f : Cport → Cport) (s : State) : (s.modCport f).mgt = s.mgt := rfl
@[simp] theorem State.modCport_freeCount (f : Cport → Cport) (s : State) : (s.modCport f).freeCount = s.freeCount := rfl
@[simp] theorem State.modCport_pending (f : Cport → Cport) (s : State) : (s.modCport f).pending = s.pending := rfl

/-! ### modMgt -/

@[simp] theorem State.modMgt_time (f : Mgt → Mgt) (s : State) : (s.modMgt f).time = s.time := rfl
@[simp] theorem State.modMgt_baud (f : Mgt → Mgt) (s : State) : (s.modMgt f).baud = s.baud := rfl
@[simp] theorem State.modMgt_mport (f : Mgt → Mgt) (s : State) : (s.modMgt f).mport = s.mport := rfl
@[simp] theorem State.modMgt_fcl (f : Mgt → Mgt) (s : State) : (s.modMgt f).fcl = s.fcl := rfl
@[simp] theorem State.modMgt_sig (f : Mgt → Mgt) (s : State) : (s.modMgt f).sig = s.sig := rfl
@[simp] theorem State.modMgt_din (f : Mgt → Mgt) (s : State) : (s.modMgt f).din = s.din := rfl
@[simp] theorem State.modMgt_wen (f : Mgt → Mgt) (s : State) : (s.modMgt f).wen = s.wen := rfl
@[simp] theorem State.modMgt_cyt (f : Mgt → Mgt) (s : State) : (s.modMgt f).cyt = s.cyt := rfl
@[simp] theorem State.modMgt_lac (f : Mgt → Mgt) (s : State) : (s.modMgt f).lac = s.lac := rfl
@[simp] theorem State.modMgt_cport (f : Mgt → Mgt) (s : State) : (s.modMgt f).cport = s.cport := rfl
@[simp] theorem State.modMgt_mgt (f : Mgt → Mgt) (s : State) : (s.modMgt f).mgt = f s.mgt := rfl
@[simp] theorem State.modMgt_freeCount (f : Mgt → Mgt) (s : State) : (s.modMgt f).freeCount = s.freeCount := rfl
@[simp] theorem State.modMgt_pending (f : Mgt → Mgt) (s : State) : (s.modMgt f).pending = s.pending := rfl

/-! ### Slots and channels -/

@[simp] theorem Sig.slot_setSlot_self (g : Sig) (r : Role) (x : Slot) : (g.setSlot r x).slot r = x := by
  cases r <;> rfl

@[simp] theorem Sig.slot_setSlot_ne {q r : Role} (h : q ≠ r) (g : Sig) (x : Slot) :
    (g.setSlot r x).slot q = g.slot q := by
  cases r <;> cases q <;> first | rfl | exact absurd rfl h

@[simp] theorem Sig.setSlot_sxt (g : Sig) (r : Role) (x : Slot) : (g.setSlot r x).sxt = g.sxt := by
  cases r <;> rfl
@[simp] theorem Sig.setSlot_omega (g : Sig) (r : Role) (x : Slot) : (g.setSlot r x).omega = g.omega := by
  cases r <;> rfl
@[simp] theorem Sig.setSlot_prevBoom (g : Sig) (r : Role) (x : Slot) : (g.setSlot r x).prevBoom = g.prevBoom := by
  cases r <;> rfl

@[simp] theorem Sig.slot_mapSlots (g : Sig) (f : Role → Slot → Slot) (r : Role) :
    (g.mapSlots f).slot r = f r (g.slot r) := by
  cases r <;> rfl
@[simp] theorem Sig.mapSlots_sxt (g : Sig) (f : Role → Slot → Slot) : (g.mapSlots f).sxt = g.sxt := rfl
@[simp] theorem Sig.mapSlots_omega (g : Sig) (f : Role → Slot → Slot) : (g.mapSlots f).omega = g.omega := rfl
@[simp] theorem Sig.mapSlots_prevBoom (g : Sig) (f : Role → Slot → Slot) :
    (g.mapSlots f).prevBoom = g.prevBoom := rfl

@[simp] theorem Cport.chan_setChan_self (p : Cport) (ch : Channel) (x : ChannelState) :
    (p.setChan ch x).chan ch = x := by
  cases ch <;> rfl

@[simp] theorem Cport.chan_setChan_ne {ch ch' : Channel} (h : ch ≠ ch') (p : Cport) (x : ChannelState) :
    (p.setChan ch' x).chan ch = p.chan ch := by
  cases ch' <;> cases ch <;> first | rfl | exact absurd rfl h

@[simp] theorem Cport.setChan_toggleG (p : Cport) (ch : Channel) (x : ChannelState) :
    (p.setChan ch x).toggleG = p.toggleG := by
  cases ch <;> rfl
@[simp] theorem Cport.setChan_toggleE (p : Cport) (ch : Channel) (x : ChannelState) :
    (p.setChan ch x).toggleE = p.toggleE := by
  cases ch <;> rfl
@[simp] theorem Cport.setChan_pendingG (p : Cport) (ch : Channel) (x : ChannelState) :
    (p.setChan ch x).pendingG = p.pendingG := by
  cases ch <;> rfl
@[simp] theorem Cport.setChan_pendingE (p : Cport) (ch : Channel) (x : ChannelState) :
    (p.setChan ch x).pendingE = p.pendingE := by
  cases ch <;> rfl
@[simp] theorem Cport.setChan_carrying (p : Cport) (ch : Channel) (x : ChannelState) :
    (p.setChan ch x).carrying = p.carrying := by
  cases ch <;> rfl
@[simp] theorem Cport.setChan_tx (p : Cport) (ch : Channel) (x : ChannelState) :
    (p.setChan ch x).tx = p.tx := by
  cases ch <;> rfl
@[simp] theorem Cport.setChan_budget (p : Cport) (ch : Channel) (x : ChannelState) :
    (p.setChan ch x).budget = p.budget := by
  cases ch <;> rfl
@[simp] theorem Cport.setChan_gap (p : Cport) (ch : Channel) (x : ChannelState) :
    (p.setChan ch x).gap = p.gap := by
  cases ch <;> rfl
@[simp] theorem Cport.setChan_gauge (p : Cport) (ch : Channel) (x : ChannelState) :
    (p.setChan ch x).gauge = p.gauge := by
  cases ch <;> rfl

end Sys2Proof.Machine
end

