-- ==== Sys2Proof/Laws/Frames.lean ====
section
/-! SUPPORT. What each shared operation leaves unchanged: one lemma per operation, each a conjunction of field equations that
simp uses one by one. -/

namespace Sys2Proof.Machine

@[simp] theorem State.latch_frame (a : Alert) (s : State) :
    (s.latch a).time = s.time ∧ (s.latch a).baud = s.baud ∧ (s.latch a).mport = s.mport ∧ (s.latch a).fcl = s.fcl ∧
    (s.latch a).sig = s.sig ∧ (s.latch a).din = s.din ∧ (s.latch a).wen = s.wen ∧ (s.latch a).cyt = s.cyt ∧
    (s.latch a).lac = s.lac ∧ (s.latch a).cport = s.cport ∧ (s.latch a).mgt.mode = s.mgt.mode ∧
    (s.latch a).mgt.deferred = s.mgt.deferred ∧ (s.latch a).mgt.assembly = s.mgt.assembly ∧
    (s.latch a).mgt.mask = s.mgt.mask ∧ (s.latch a).mgt.node = s.mgt.node ∧ (s.latch a).freeCount = s.freeCount ∧
    (s.latch a).pending = s.pending := by
  simp only [State.latch]
  simp

@[simp] theorem State.offerE_frame (f : Frame) (s : State) :
    (s.offerE f).time = s.time ∧ (s.offerE f).baud = s.baud ∧ (s.offerE f).mport = s.mport ∧
    (s.offerE f).fcl = s.fcl ∧ (s.offerE f).sig = s.sig ∧ (s.offerE f).din = s.din ∧ (s.offerE f).wen = s.wen ∧
    (s.offerE f).cyt = s.cyt ∧ (s.offerE f).lac = s.lac ∧ (s.offerE f).cport.m = s.cport.m ∧
    (s.offerE f).cport.carrying = s.cport.carrying ∧ (s.offerE f).cport.tx = s.cport.tx ∧
    (s.offerE f).cport.budget = s.cport.budget ∧ (s.offerE f).mgt.mode = s.mgt.mode ∧
    (s.offerE f).mgt.deferred = s.mgt.deferred ∧ (s.offerE f).mgt.assembly = s.mgt.assembly ∧
    (s.offerE f).mgt.mask = s.mgt.mask ∧ (s.offerE f).mgt.node = s.mgt.node ∧ (s.offerE f).freeCount = s.freeCount ∧
    (s.offerE f).pending = s.pending := by
  simp only [State.offerE]
  (repeat' split) <;> simp

@[simp] theorem State.raiseSub_frame (a : Alert) (sub detail : Nat) (t : Time) (s : State) :
    (s.raiseSub a sub detail t).time = s.time ∧ (s.raiseSub a sub detail t).baud = s.baud ∧
    (s.raiseSub a sub detail t).mport = s.mport ∧ (s.raiseSub a sub detail t).fcl = s.fcl ∧
    (s.raiseSub a sub detail t).sig = s.sig ∧ (s.raiseSub a sub detail t).din = s.din ∧
    (s.raiseSub a sub detail t).wen = s.wen ∧ (s.raiseSub a sub detail t).cyt = s.cyt ∧
    (s.raiseSub a sub detail t).lac = s.lac ∧ (s.raiseSub a sub detail t).cport.m = s.cport.m ∧
    (s.raiseSub a sub detail t).cport.carrying = s.cport.carrying ∧
    (s.raiseSub a sub detail t).cport.tx = s.cport.tx ∧ (s.raiseSub a sub detail t).cport.budget = s.cport.budget ∧
    (s.raiseSub a sub detail t).mgt.mode = s.mgt.mode ∧ (s.raiseSub a sub detail t).mgt.deferred = s.mgt.deferred ∧
    (s.raiseSub a sub detail t).mgt.assembly = s.mgt.assembly ∧ (s.raiseSub a sub detail t).mgt.mask = s.mgt.mask ∧
    (s.raiseSub a sub detail t).mgt.node = s.mgt.node ∧ (s.raiseSub a sub detail t).freeCount = s.freeCount ∧
    (s.raiseSub a sub detail t).pending = s.pending := by
  simp only [State.raiseSub]
  (repeat' split) <;> simp

@[simp] theorem State.raiseAlert_frame (a : Alert) (detail : Nat) (t : Time) (s : State) :
    (s.raiseAlert a detail t).time = s.time ∧ (s.raiseAlert a detail t).baud = s.baud ∧
    (s.raiseAlert a detail t).mport = s.mport ∧ (s.raiseAlert a detail t).fcl = s.fcl ∧
    (s.raiseAlert a detail t).sig = s.sig ∧ (s.raiseAlert a detail t).din = s.din ∧
    (s.raiseAlert a detail t).wen = s.wen ∧ (s.raiseAlert a detail t).cyt = s.cyt ∧
    (s.raiseAlert a detail t).lac = s.lac ∧ (s.raiseAlert a detail t).cport.m = s.cport.m ∧
    (s.raiseAlert a detail t).cport.carrying = s.cport.carrying ∧ (s.raiseAlert a detail t).cport.tx = s.cport.tx ∧
    (s.raiseAlert a detail t).cport.budget = s.cport.budget ∧ (s.raiseAlert a detail t).mgt.mode = s.mgt.mode ∧
    (s.raiseAlert a detail t).mgt.deferred = s.mgt.deferred ∧
    (s.raiseAlert a detail t).mgt.assembly = s.mgt.assembly ∧ (s.raiseAlert a detail t).mgt.mask = s.mgt.mask ∧
    (s.raiseAlert a detail t).mgt.node = s.mgt.node ∧ (s.raiseAlert a detail t).freeCount = s.freeCount ∧
    (s.raiseAlert a detail t).pending = s.pending := by
  simp only [State.raiseAlert]
  simp

@[simp] theorem State.noticeMode_frame (new old : Mode) (cal : Option (CurveName × Nat)) (cause : NoticeCause) (t : Time) (s : State) :
    (s.noticeMode new old cal cause t).time = s.time ∧ (s.noticeMode new old cal cause t).baud = s.baud ∧
    (s.noticeMode new old cal cause t).mport = s.mport ∧ (s.noticeMode new old cal cause t).fcl = s.fcl ∧
    (s.noticeMode new old cal cause t).sig = s.sig ∧ (s.noticeMode new old cal cause t).din = s.din ∧
    (s.noticeMode new old cal cause t).wen = s.wen ∧ (s.noticeMode new old cal cause t).cyt = s.cyt ∧
    (s.noticeMode new old cal cause t).lac = s.lac ∧ (s.noticeMode new old cal cause t).cport.m = s.cport.m ∧
    (s.noticeMode new old cal cause t).cport.carrying = s.cport.carrying ∧
    (s.noticeMode new old cal cause t).cport.tx = s.cport.tx ∧
    (s.noticeMode new old cal cause t).cport.budget = s.cport.budget ∧
    (s.noticeMode new old cal cause t).mgt.mode = s.mgt.mode ∧
    (s.noticeMode new old cal cause t).mgt.deferred = s.mgt.deferred ∧
    (s.noticeMode new old cal cause t).mgt.assembly = s.mgt.assembly ∧
    (s.noticeMode new old cal cause t).mgt.mask = s.mgt.mask ∧
    (s.noticeMode new old cal cause t).mgt.node = s.mgt.node ∧
    (s.noticeMode new old cal cause t).freeCount = s.freeCount ∧
    (s.noticeMode new old cal cause t).pending = s.pending := by
  simp [State.noticeMode]

@[simp] theorem State.noticeKeyOn_frame (t : Time) (s : State) :
    (s.noticeKeyOn t).time = s.time ∧ (s.noticeKeyOn t).baud = s.baud ∧ (s.noticeKeyOn t).mport = s.mport ∧
    (s.noticeKeyOn t).fcl = s.fcl ∧ (s.noticeKeyOn t).sig = s.sig ∧ (s.noticeKeyOn t).din = s.din ∧
    (s.noticeKeyOn t).wen = s.wen ∧ (s.noticeKeyOn t).cyt = s.cyt ∧ (s.noticeKeyOn t).lac = s.lac ∧
    (s.noticeKeyOn t).cport.m = s.cport.m ∧ (s.noticeKeyOn t).cport.carrying = s.cport.carrying ∧
    (s.noticeKeyOn t).cport.tx = s.cport.tx ∧ (s.noticeKeyOn t).cport.budget = s.cport.budget ∧
    (s.noticeKeyOn t).mgt.mode = s.mgt.mode ∧ (s.noticeKeyOn t).mgt.deferred = s.mgt.deferred ∧
    (s.noticeKeyOn t).mgt.assembly = s.mgt.assembly ∧ (s.noticeKeyOn t).mgt.mask = s.mgt.mask ∧
    (s.noticeKeyOn t).mgt.node = s.mgt.node ∧ (s.noticeKeyOn t).freeCount = s.freeCount ∧
    (s.noticeKeyOn t).pending = s.pending := by
  simp only [State.noticeKeyOn]
  simp

@[simp] theorem State.noticeCaptureDone_frame (gap : Bool) (t : Time) (s : State) :
    (s.noticeCaptureDone gap t).time = s.time ∧ (s.noticeCaptureDone gap t).baud = s.baud ∧
    (s.noticeCaptureDone gap t).mport = s.mport ∧ (s.noticeCaptureDone gap t).fcl = s.fcl ∧
    (s.noticeCaptureDone gap t).sig = s.sig ∧ (s.noticeCaptureDone gap t).din = s.din ∧
    (s.noticeCaptureDone gap t).wen = s.wen ∧ (s.noticeCaptureDone gap t).cyt = s.cyt ∧
    (s.noticeCaptureDone gap t).lac = s.lac ∧ (s.noticeCaptureDone gap t).cport.m = s.cport.m ∧
    (s.noticeCaptureDone gap t).cport.carrying = s.cport.carrying ∧
    (s.noticeCaptureDone gap t).cport.tx = s.cport.tx ∧ (s.noticeCaptureDone gap t).cport.budget = s.cport.budget ∧
    (s.noticeCaptureDone gap t).mgt.mode = s.mgt.mode ∧ (s.noticeCaptureDone gap t).mgt.deferred = s.mgt.deferred ∧
    (s.noticeCaptureDone gap t).mgt.assembly = s.mgt.assembly ∧ (s.noticeCaptureDone gap t).mgt.mask = s.mgt.mask ∧
    (s.noticeCaptureDone gap t).mgt.node = s.mgt.node ∧ (s.noticeCaptureDone gap t).freeCount = s.freeCount ∧
    (s.noticeCaptureDone gap t).pending = s.pending := by
  simp only [State.noticeCaptureDone]
  simp

@[simp] theorem State.offerP_frame (f : Frame) (s : State) :
    (s.offerP f).time = s.time ∧ (s.offerP f).baud = s.baud ∧ (s.offerP f).mport = s.mport ∧
    (s.offerP f).fcl = s.fcl ∧ (s.offerP f).sig = s.sig ∧ (s.offerP f).din = s.din ∧ (s.offerP f).wen = s.wen ∧
    (s.offerP f).cyt = s.cyt ∧ (s.offerP f).lac = s.lac ∧ (s.offerP f).cport.m = s.cport.m ∧
    (s.offerP f).cport.carrying = s.cport.carrying ∧ (s.offerP f).cport.tx = s.cport.tx ∧
    (s.offerP f).cport.budget = s.cport.budget ∧ (s.offerP f).mgt = s.mgt ∧ (s.offerP f).freeCount = s.freeCount ∧
    (s.offerP f).pending = s.pending := by
  simp only [State.offerP]
  (repeat' split) <;> simp

@[simp] theorem State.offerC_frame (f : Frame) (s : State) :
    (s.offerC f).time = s.time ∧ (s.offerC f).baud = s.baud ∧ (s.offerC f).mport = s.mport ∧
    (s.offerC f).fcl = s.fcl ∧ (s.offerC f).sig = s.sig ∧ (s.offerC f).din = s.din ∧ (s.offerC f).wen = s.wen ∧
    (s.offerC f).cyt = s.cyt ∧ (s.offerC f).lac = s.lac ∧ (s.offerC f).cport.m = s.cport.m ∧
    (s.offerC f).cport.carrying = s.cport.carrying ∧ (s.offerC f).cport.tx = s.cport.tx ∧
    (s.offerC f).mgt.mode = s.mgt.mode ∧ (s.offerC f).mgt.deferred = s.mgt.deferred ∧
    (s.offerC f).mgt.assembly = s.mgt.assembly ∧ (s.offerC f).mgt.mask = s.mgt.mask ∧
    (s.offerC f).mgt.node = s.mgt.node ∧ (s.offerC f).freeCount = s.freeCount ∧ (s.offerC f).pending = s.pending := by
  unfold State.offerC
  (repeat' split) <;> simp

@[simp] theorem State.offerG_frame (f : Frame) (s : State) :
    (s.offerG f).time = s.time ∧ (s.offerG f).baud = s.baud ∧ (s.offerG f).mport = s.mport ∧
    (s.offerG f).fcl = s.fcl ∧ (s.offerG f).sig = s.sig ∧ (s.offerG f).din = s.din ∧ (s.offerG f).wen = s.wen ∧
    (s.offerG f).cyt = s.cyt ∧ (s.offerG f).lac = s.lac ∧ (s.offerG f).cport.m = s.cport.m ∧
    (s.offerG f).cport.carrying = s.cport.carrying ∧ (s.offerG f).cport.tx = s.cport.tx ∧
    (s.offerG f).cport.budget = s.cport.budget ∧ (s.offerG f).mgt = s.mgt ∧ (s.offerG f).freeCount = s.freeCount ∧
    (s.offerG f).pending = s.pending := by
  simp only [State.offerG]
  (repeat' split) <;> simp

@[simp] theorem State.offerResponse_frame (port : Port) (f : Frame) (s : State) :
    (s.offerResponse port f).time = s.time ∧ (s.offerResponse port f).baud = s.baud ∧
    (s.offerResponse port f).mport.carrying = s.mport.carrying ∧ (s.offerResponse port f).mport.tx = s.mport.tx ∧
    (s.offerResponse port f).fcl = s.fcl ∧ (s.offerResponse port f).sig = s.sig ∧
    (s.offerResponse port f).din = s.din ∧ (s.offerResponse port f).wen = s.wen ∧
    (s.offerResponse port f).cyt = s.cyt ∧ (s.offerResponse port f).lac = s.lac ∧
    (s.offerResponse port f).cport.carrying = s.cport.carrying ∧ (s.offerResponse port f).cport.tx = s.cport.tx ∧
    (s.offerResponse port f).cport.budget = s.cport.budget ∧ (s.offerResponse port f).mgt = s.mgt ∧
    (s.offerResponse port f).freeCount = s.freeCount ∧ (s.offerResponse port f).pending = s.pending := by
  simp only [State.offerResponse]
  (repeat' split) <;> simp

@[simp] theorem State.respond_frame (port : Port) (code tag : Byte) (status : Status) (results : List Byte) (s : State) :
    (s.respond port code tag status results).time = s.time ∧
    (s.respond port code tag status results).baud = s.baud ∧
    (s.respond port code tag status results).mport.carrying = s.mport.carrying ∧
    (s.respond port code tag status results).mport.tx = s.mport.tx ∧
    (s.respond port code tag status results).fcl = s.fcl ∧ (s.respond port code tag status results).sig = s.sig ∧
    (s.respond port code tag status results).din = s.din ∧ (s.respond port code tag status results).wen = s.wen ∧
    (s.respond port code tag status results).cyt = s.cyt ∧ (s.respond port code tag status results).lac = s.lac ∧
    (s.respond port code tag status results).cport.carrying = s.cport.carrying ∧
    (s.respond port code tag status results).cport.tx = s.cport.tx ∧
    (s.respond port code tag status results).cport.budget = s.cport.budget ∧
    (s.respond port code tag status results).mgt = s.mgt ∧
    (s.respond port code tag status results).freeCount = s.freeCount ∧
    (s.respond port code tag status results).pending = s.pending := by
  simp only [State.respond]
  simp

@[simp] theorem State.evalOverload_frame (t : Time) (s : State) :
    (s.evalOverload t).time = s.time ∧ (s.evalOverload t).baud = s.baud ∧ (s.evalOverload t).mport = s.mport ∧
    (s.evalOverload t).fcl = s.fcl ∧ (s.evalOverload t).sig = s.sig ∧ (s.evalOverload t).din = s.din ∧
    (s.evalOverload t).wen = s.wen ∧ (s.evalOverload t).cyt = s.cyt ∧
    (s.evalOverload t).lac.materials = s.lac.materials ∧ (s.evalOverload t).cport.m = s.cport.m ∧
    (s.evalOverload t).cport.carrying = s.cport.carrying ∧ (s.evalOverload t).cport.tx = s.cport.tx ∧
    (s.evalOverload t).cport.budget = s.cport.budget ∧ (s.evalOverload t).mgt.mode = s.mgt.mode ∧
    (s.evalOverload t).mgt.deferred = s.mgt.deferred ∧ (s.evalOverload t).mgt.assembly = s.mgt.assembly ∧
    (s.evalOverload t).mgt.mask = s.mgt.mask ∧ (s.evalOverload t).mgt.node = s.mgt.node ∧
    (s.evalOverload t).freeCount = s.freeCount ∧ (s.evalOverload t).pending = s.pending := by
  simp only [State.evalOverload]
  (repeat' split) <;> simp

@[simp] theorem State.closeLoadNow_frame (by' : ClosedBy) (t : Time) (s : State) :
    (s.closeLoadNow by' t).time = s.time ∧ (s.closeLoadNow by' t).baud = s.baud ∧
    (s.closeLoadNow by' t).mport = s.mport ∧ (s.closeLoadNow by' t).fcl = s.fcl ∧
    (s.closeLoadNow by' t).sig = s.sig ∧ (s.closeLoadNow by' t).din = s.din ∧ (s.closeLoadNow by' t).wen = s.wen ∧
    (s.closeLoadNow by' t).cyt = s.cyt ∧ (s.closeLoadNow by' t).lac.materials = s.lac.materials ∧
    (s.closeLoadNow by' t).cport.m = s.cport.m ∧ (s.closeLoadNow by' t).cport.carrying = s.cport.carrying ∧
    (s.closeLoadNow by' t).cport.tx = s.cport.tx ∧ (s.closeLoadNow by' t).cport.budget = s.cport.budget ∧
    (s.closeLoadNow by' t).mgt.mode = s.mgt.mode ∧ (s.closeLoadNow by' t).mgt.deferred = s.mgt.deferred ∧
    (s.closeLoadNow by' t).mgt.assembly = s.mgt.assembly ∧ (s.closeLoadNow by' t).mgt.mask = s.mgt.mask ∧
    (s.closeLoadNow by' t).mgt.node = s.mgt.node ∧ (s.closeLoadNow by' t).freeCount = s.freeCount ∧
    (s.closeLoadNow by' t).pending = s.pending := by
  simp only [State.closeLoadNow]
  simp

@[simp] theorem State.nextTruck_frame (by' : ClosedBy) (t : Time) (s : State) :
    (s.nextTruck by' t).time = s.time ∧ (s.nextTruck by' t).baud = s.baud ∧ (s.nextTruck by' t).mport = s.mport ∧
    (s.nextTruck by' t).fcl = s.fcl ∧ (s.nextTruck by' t).sig = s.sig ∧ (s.nextTruck by' t).din = s.din ∧
    (s.nextTruck by' t).wen = s.wen ∧ (s.nextTruck by' t).cyt = s.cyt ∧
    (s.nextTruck by' t).lac.materials = s.lac.materials ∧ (s.nextTruck by' t).cport.m = s.cport.m ∧
    (s.nextTruck by' t).cport.carrying = s.cport.carrying ∧ (s.nextTruck by' t).cport.tx = s.cport.tx ∧
    (s.nextTruck by' t).cport.budget = s.cport.budget ∧ (s.nextTruck by' t).mgt.mode = s.mgt.mode ∧
    (s.nextTruck by' t).mgt.deferred = s.mgt.deferred ∧ (s.nextTruck by' t).mgt.assembly = s.mgt.assembly ∧
    (s.nextTruck by' t).mgt.mask = s.mgt.mask ∧ (s.nextTruck by' t).mgt.node = s.mgt.node ∧
    (s.nextTruck by' t).freeCount = s.freeCount ∧ (s.nextTruck by' t).pending = s.pending := by
  simp only [State.nextTruck]
  (repeat' split) <;> simp

@[simp] theorem State.cancelLast_frame (t : Time) (s : State) :
    (s.cancelLast t).time = s.time ∧ (s.cancelLast t).baud = s.baud ∧ (s.cancelLast t).mport = s.mport ∧
    (s.cancelLast t).fcl = s.fcl ∧ (s.cancelLast t).sig = s.sig ∧ (s.cancelLast t).din = s.din ∧
    (s.cancelLast t).wen = s.wen ∧ (s.cancelLast t).cyt = s.cyt ∧ (s.cancelLast t).lac.materials = s.lac.materials ∧
    (s.cancelLast t).cport.m = s.cport.m ∧ (s.cancelLast t).cport.carrying = s.cport.carrying ∧
    (s.cancelLast t).cport.tx = s.cport.tx ∧ (s.cancelLast t).cport.budget = s.cport.budget ∧
    (s.cancelLast t).mgt.mode = s.mgt.mode ∧ (s.cancelLast t).mgt.deferred = s.mgt.deferred ∧
    (s.cancelLast t).mgt.assembly = s.mgt.assembly ∧ (s.cancelLast t).mgt.mask = s.mgt.mask ∧
    (s.cancelLast t).mgt.node = s.mgt.node ∧ (s.cancelLast t).freeCount = s.freeCount ∧
    (s.cancelLast t).pending = s.pending := by
  simp only [State.cancelLast]
  (repeat' split) <;> simp

@[simp] theorem State.autoClose_frame (t : Time) (s : State) :
    (s.autoClose t).time = s.time ∧ (s.autoClose t).baud = s.baud ∧ (s.autoClose t).mport = s.mport ∧
    (s.autoClose t).fcl = s.fcl ∧ (s.autoClose t).sig = s.sig ∧ (s.autoClose t).din = s.din ∧
    (s.autoClose t).wen = s.wen ∧ (s.autoClose t).cyt = s.cyt ∧ (s.autoClose t).lac.materials = s.lac.materials ∧
    (s.autoClose t).cport.m = s.cport.m ∧ (s.autoClose t).cport.carrying = s.cport.carrying ∧
    (s.autoClose t).cport.tx = s.cport.tx ∧ (s.autoClose t).cport.budget = s.cport.budget ∧
    (s.autoClose t).mgt.mode = s.mgt.mode ∧ (s.autoClose t).mgt.deferred = s.mgt.deferred ∧
    (s.autoClose t).mgt.assembly = s.mgt.assembly ∧ (s.autoClose t).mgt.mask = s.mgt.mask ∧
    (s.autoClose t).mgt.node = s.mgt.node ∧ (s.autoClose t).freeCount = s.freeCount ∧
    (s.autoClose t).pending = s.pending := by
  simp only [State.autoClose]
  (repeat' split) <;> simp

@[simp] theorem State.appendBucket_frame (b : BucketRecord) (s : State) :
    (s.appendBucket b).time = s.time ∧ (s.appendBucket b).baud = s.baud ∧ (s.appendBucket b).mport = s.mport ∧
    (s.appendBucket b).fcl = s.fcl ∧ (s.appendBucket b).sig = s.sig ∧ (s.appendBucket b).din = s.din ∧
    (s.appendBucket b).wen = s.wen ∧ (s.appendBucket b).cyt = s.cyt ∧
    (s.appendBucket b).lac.materials = s.lac.materials ∧ (s.appendBucket b).cport.m = s.cport.m ∧
    (s.appendBucket b).cport.carrying = s.cport.carrying ∧ (s.appendBucket b).cport.tx = s.cport.tx ∧
    (s.appendBucket b).cport.budget = s.cport.budget ∧ (s.appendBucket b).mgt.mode = s.mgt.mode ∧
    (s.appendBucket b).mgt.deferred = s.mgt.deferred ∧ (s.appendBucket b).mgt.assembly = s.mgt.assembly ∧
    (s.appendBucket b).mgt.mask = s.mgt.mask ∧ (s.appendBucket b).mgt.node = s.mgt.node ∧
    (s.appendBucket b).freeCount = s.freeCount ∧ (s.appendBucket b).pending = s.pending := by
  simp only [State.appendBucket]
  simp

@[simp] theorem State.addBucket_frame (h : HandedRecord) (t : Time) (s : State) :
    (s.addBucket h t).time = s.time ∧ (s.addBucket h t).baud = s.baud ∧ (s.addBucket h t).mport = s.mport ∧
    (s.addBucket h t).fcl = s.fcl ∧ (s.addBucket h t).sig = s.sig ∧ (s.addBucket h t).din = s.din ∧
    (s.addBucket h t).wen = s.wen ∧ (s.addBucket h t).cyt = s.cyt ∧
    (s.addBucket h t).lac.materials = s.lac.materials ∧ (s.addBucket h t).cport.m = s.cport.m ∧
    (s.addBucket h t).cport.carrying = s.cport.carrying ∧ (s.addBucket h t).cport.tx = s.cport.tx ∧
    (s.addBucket h t).cport.budget = s.cport.budget ∧ (s.addBucket h t).mgt.mode = s.mgt.mode ∧
    (s.addBucket h t).mgt.deferred = s.mgt.deferred ∧ (s.addBucket h t).mgt.assembly = s.mgt.assembly ∧
    (s.addBucket h t).mgt.mask = s.mgt.mask ∧ (s.addBucket h t).mgt.node = s.mgt.node ∧
    (s.addBucket h t).freeCount = s.freeCount ∧ (s.addBucket h t).pending = s.pending := by
  simp only [State.addBucket]
  simp

@[simp] theorem State.countCycle_frame (s : State) :
    s.countCycle.time = s.time ∧ s.countCycle.baud = s.baud ∧ s.countCycle.mport = s.mport ∧
    s.countCycle.fcl = s.fcl ∧ s.countCycle.sig = s.sig ∧ s.countCycle.din = s.din ∧ s.countCycle.wen = s.wen ∧
    s.countCycle.cyt = s.cyt ∧ s.countCycle.lac.materials = s.lac.materials ∧ s.countCycle.cport = s.cport ∧
    s.countCycle.mgt = s.mgt ∧ s.countCycle.freeCount = s.freeCount ∧ s.countCycle.pending = s.pending := by
  simp only [State.countCycle]
  simp

@[simp] theorem State.countReturned_frame (s : State) :
    s.countReturned.time = s.time ∧ s.countReturned.baud = s.baud ∧ s.countReturned.mport = s.mport ∧
    s.countReturned.fcl = s.fcl ∧ s.countReturned.sig = s.sig ∧ s.countReturned.din = s.din ∧
    s.countReturned.wen = s.wen ∧ s.countReturned.cyt = s.cyt ∧ s.countReturned.lac.materials = s.lac.materials ∧
    s.countReturned.cport = s.cport ∧ s.countReturned.mgt = s.mgt ∧ s.countReturned.freeCount = s.freeCount ∧
    s.countReturned.pending = s.pending := by
  simp only [State.countReturned]
  simp

@[simp] theorem State.countTarePass_frame (s : State) :
    s.countTarePass.time = s.time ∧ s.countTarePass.baud = s.baud ∧ s.countTarePass.mport = s.mport ∧
    s.countTarePass.fcl = s.fcl ∧ s.countTarePass.sig = s.sig ∧ s.countTarePass.din = s.din ∧
    s.countTarePass.wen = s.wen ∧ s.countTarePass.cyt = s.cyt ∧ s.countTarePass.lac.materials = s.lac.materials ∧
    s.countTarePass.cport = s.cport ∧ s.countTarePass.mgt = s.mgt ∧ s.countTarePass.freeCount = s.freeCount ∧
    s.countTarePass.pending = s.pending := by
  simp only [State.countTarePass]
  simp

@[simp] theorem State.settleSlots_frame (t : Time) (s : State) :
    (s.settleSlots t).time = s.time ∧ (s.settleSlots t).baud = s.baud ∧ (s.settleSlots t).mport = s.mport ∧
    (s.settleSlots t).fcl = s.fcl ∧ (s.settleSlots t).sig.sxt = s.sig.sxt ∧ (s.settleSlots t).din = s.din ∧
    (s.settleSlots t).wen = s.wen ∧ (s.settleSlots t).cyt = s.cyt ∧ (s.settleSlots t).lac = s.lac ∧
    (s.settleSlots t).cport = s.cport ∧ (s.settleSlots t).mgt = s.mgt ∧ (s.settleSlots t).freeCount = s.freeCount ∧
    (s.settleSlots t).pending = s.pending := by
  simp [State.settleSlots, Sig.clearOmega]

@[simp] theorem State.parkSlots_frame (s : State) :
    s.parkSlots.time = s.time ∧ s.parkSlots.baud = s.baud ∧ s.parkSlots.mport = s.mport ∧ s.parkSlots.fcl = s.fcl ∧
    s.parkSlots.sig.sxt = s.sig.sxt ∧ s.parkSlots.din = s.din ∧ s.parkSlots.wen = s.wen ∧ s.parkSlots.cyt = s.cyt ∧
    s.parkSlots.lac = s.lac ∧ s.parkSlots.cport = s.cport ∧ s.parkSlots.mgt = s.mgt ∧
    s.parkSlots.freeCount = s.freeCount ∧ s.parkSlots.pending = s.pending := by
  simp [State.parkSlots, Sig.clearOmega]

@[simp] theorem State.wakeSlots_frame (t : Time) (s : State) :
    (s.wakeSlots t).time = s.time ∧ (s.wakeSlots t).baud = s.baud ∧ (s.wakeSlots t).mport = s.mport ∧
    (s.wakeSlots t).fcl = s.fcl ∧ (s.wakeSlots t).sig.sxt = s.sig.sxt ∧ (s.wakeSlots t).din = s.din ∧
    (s.wakeSlots t).wen = s.wen ∧ (s.wakeSlots t).cyt = s.cyt ∧ (s.wakeSlots t).lac = s.lac ∧
    (s.wakeSlots t).cport = s.cport ∧ (s.wakeSlots t).mgt = s.mgt ∧ (s.wakeSlots t).freeCount = s.freeCount ∧
    (s.wakeSlots t).pending = s.pending := by
  simp [State.wakeSlots]

@[simp] theorem State.acceptValue_frame (r : Role) (v : Int) (t : Time) (timeout : Option Nat) (s : State) :
    (s.acceptValue r v t timeout).time = s.time ∧ (s.acceptValue r v t timeout).baud = s.baud ∧
    (s.acceptValue r v t timeout).mport = s.mport ∧ (s.acceptValue r v t timeout).fcl = s.fcl ∧
    (s.acceptValue r v t timeout).sig.sxt = s.sig.sxt ∧ (s.acceptValue r v t timeout).din = s.din ∧
    (s.acceptValue r v t timeout).wen = s.wen ∧ (s.acceptValue r v t timeout).cyt = s.cyt ∧
    (s.acceptValue r v t timeout).lac = s.lac ∧ (s.acceptValue r v t timeout).cport = s.cport ∧
    (s.acceptValue r v t timeout).mgt = s.mgt ∧ (s.acceptValue r v t timeout).freeCount = s.freeCount ∧
    (s.acceptValue r v t timeout).pending = s.pending := by
  unfold State.acceptValue
  simp
  split <;> simp

@[simp] theorem State.modSlot_frame (r : Role) (f : Slot → Slot) (s : State) :
    (s.modSlot r f).time = s.time ∧ (s.modSlot r f).baud = s.baud ∧ (s.modSlot r f).mport = s.mport ∧
    (s.modSlot r f).fcl = s.fcl ∧ (s.modSlot r f).sig.sxt = s.sig.sxt ∧ (s.modSlot r f).din = s.din ∧
    (s.modSlot r f).wen = s.wen ∧ (s.modSlot r f).cyt = s.cyt ∧ (s.modSlot r f).lac = s.lac ∧
    (s.modSlot r f).cport = s.cport ∧ (s.modSlot r f).mgt = s.mgt ∧ (s.modSlot r f).freeCount = s.freeCount ∧
    (s.modSlot r f).pending = s.pending := by
  simp only [State.modSlot]
  simp

@[simp] theorem State.boomUnhomed_frame (s : State) :
    s.boomUnhomed.time = s.time ∧ s.boomUnhomed.baud = s.baud ∧ s.boomUnhomed.mport = s.mport ∧
    s.boomUnhomed.fcl = s.fcl ∧ s.boomUnhomed.sig.sxt = s.sig.sxt ∧ s.boomUnhomed.din = s.din ∧
    s.boomUnhomed.wen = s.wen ∧ s.boomUnhomed.cyt = s.cyt ∧ s.boomUnhomed.lac = s.lac ∧
    s.boomUnhomed.cport = s.cport ∧ s.boomUnhomed.mgt = s.mgt ∧ s.boomUnhomed.freeCount = s.freeCount ∧
    s.boomUnhomed.pending = s.pending := by
  simp only [State.boomUnhomed]
  (repeat' split) <;> simp

@[simp] theorem State.writeCurve_frame (c : CurveName) (v : List Int) (t : Time) (s : State) :
    (s.writeCurve c v t).time = s.time ∧ (s.writeCurve c v t).baud = s.baud ∧ (s.writeCurve c v t).mport = s.mport ∧
    (s.writeCurve c v t).fcl = s.fcl ∧ (s.writeCurve c v t).sig = s.sig ∧ (s.writeCurve c v t).din = s.din ∧
    (s.writeCurve c v t).wen.record = s.wen.record ∧ (s.writeCurve c v t).wen.bands = s.wen.bands ∧
    (s.writeCurve c v t).wen.window = s.wen.window ∧ (s.writeCurve c v t).wen.calibration = s.wen.calibration ∧
    (s.writeCurve c v t).cyt = s.cyt ∧ (s.writeCurve c v t).lac = s.lac ∧ (s.writeCurve c v t).cport.m = s.cport.m ∧
    (s.writeCurve c v t).cport.carrying = s.cport.carrying ∧ (s.writeCurve c v t).cport.tx = s.cport.tx ∧
    (s.writeCurve c v t).cport.budget = s.cport.budget ∧ (s.writeCurve c v t).mgt.mode = s.mgt.mode ∧
    (s.writeCurve c v t).mgt.deferred = s.mgt.deferred ∧ (s.writeCurve c v t).mgt.assembly = s.mgt.assembly ∧
    (s.writeCurve c v t).mgt.mask = s.mgt.mask ∧ (s.writeCurve c v t).mgt.node = s.mgt.node ∧
    (s.writeCurve c v t).freeCount = s.freeCount ∧ (s.writeCurve c v t).pending = s.pending := by
  unfold State.writeCurve
  cases c <;> (dsimp only; split <;> simp [Wen.setCurve])

@[simp] theorem State.applyTarePass_frame (r : WindowResult) (s : State) :
    (s.applyTarePass r).time = s.time ∧ (s.applyTarePass r).baud = s.baud ∧ (s.applyTarePass r).mport = s.mport ∧
    (s.applyTarePass r).fcl = s.fcl ∧ (s.applyTarePass r).sig = s.sig ∧ (s.applyTarePass r).din = s.din ∧
    (s.applyTarePass r).wen.record = s.wen.record ∧ (s.applyTarePass r).wen.curveE = s.wen.curveE ∧
    (s.applyTarePass r).wen.curveL = s.wen.curveL ∧ (s.applyTarePass r).wen.bands = s.wen.bands ∧
    (s.applyTarePass r).wen.window = s.wen.window ∧ (s.applyTarePass r).wen.calibration = s.wen.calibration ∧
    (s.applyTarePass r).cyt = s.cyt ∧ (s.applyTarePass r).lac = s.lac ∧ (s.applyTarePass r).cport.m = s.cport.m ∧
    (s.applyTarePass r).cport.carrying = s.cport.carrying ∧ (s.applyTarePass r).cport.tx = s.cport.tx ∧
    (s.applyTarePass r).cport.budget = s.cport.budget ∧ (s.applyTarePass r).mgt.mode = s.mgt.mode ∧
    (s.applyTarePass r).mgt.deferred = s.mgt.deferred ∧ (s.applyTarePass r).mgt.assembly = s.mgt.assembly ∧
    (s.applyTarePass r).mgt.mask = s.mgt.mask ∧ (s.applyTarePass r).mgt.node = s.mgt.node ∧
    (s.applyTarePass r).freeCount = s.freeCount ∧ (s.applyTarePass r).pending = s.pending := by
  simp only [State.applyTarePass]
  (repeat' split) <;> simp

@[simp] theorem State.raiseUnsteady_frame (r : WindowResult) (s : State) :
    (s.raiseUnsteady r).time = s.time ∧ (s.raiseUnsteady r).baud = s.baud ∧ (s.raiseUnsteady r).mport = s.mport ∧
    (s.raiseUnsteady r).fcl = s.fcl ∧ (s.raiseUnsteady r).sig = s.sig ∧ (s.raiseUnsteady r).din = s.din ∧
    (s.raiseUnsteady r).wen = s.wen ∧ (s.raiseUnsteady r).cyt = s.cyt ∧ (s.raiseUnsteady r).lac = s.lac ∧
    (s.raiseUnsteady r).cport.m = s.cport.m ∧ (s.raiseUnsteady r).cport.carrying = s.cport.carrying ∧
    (s.raiseUnsteady r).cport.tx = s.cport.tx ∧ (s.raiseUnsteady r).cport.budget = s.cport.budget ∧
    (s.raiseUnsteady r).mgt.mode = s.mgt.mode ∧ (s.raiseUnsteady r).mgt.deferred = s.mgt.deferred ∧
    (s.raiseUnsteady r).mgt.assembly = s.mgt.assembly ∧ (s.raiseUnsteady r).mgt.mask = s.mgt.mask ∧
    (s.raiseUnsteady r).mgt.node = s.mgt.node ∧ (s.raiseUnsteady r).freeCount = s.freeCount ∧
    (s.raiseUnsteady r).pending = s.pending := by
  simp only [State.raiseUnsteady]
  (repeat' split) <;> simp

@[simp] theorem State.endWindow_frame (e : Ending) (t : Time) (s : State) :
    (s.endWindow e t).time = s.time ∧ (s.endWindow e t).baud = s.baud ∧ (s.endWindow e t).mport = s.mport ∧
    (s.endWindow e t).fcl = s.fcl ∧ (s.endWindow e t).sig = s.sig ∧ (s.endWindow e t).din = s.din ∧
    (s.endWindow e t).wen.record = s.wen.record ∧ (s.endWindow e t).wen.curveE = s.wen.curveE ∧
    (s.endWindow e t).wen.curveL = s.wen.curveL ∧ (s.endWindow e t).wen.bands = s.wen.bands ∧
    (s.endWindow e t).wen.calibration = s.wen.calibration ∧ (s.endWindow e t).lac = s.lac ∧
    (s.endWindow e t).cport.m = s.cport.m ∧ (s.endWindow e t).cport.carrying = s.cport.carrying ∧
    (s.endWindow e t).cport.tx = s.cport.tx ∧ (s.endWindow e t).cport.budget = s.cport.budget ∧
    (s.endWindow e t).mgt.mode = s.mgt.mode ∧ (s.endWindow e t).mgt.deferred = s.mgt.deferred ∧
    (s.endWindow e t).mgt.assembly = s.mgt.assembly ∧ (s.endWindow e t).mgt.mask = s.mgt.mask ∧
    (s.endWindow e t).mgt.node = s.mgt.node ∧ (s.endWindow e t).freeCount = s.freeCount ∧
    (s.endWindow e t).pending = s.pending := by
  unfold State.endWindow
  split
  · simp
  · dsimp only
    split <;> simp [Cyt.take]

@[simp] theorem State.returnPass_frame (s : State) :
    s.returnPass.time = s.time ∧ s.returnPass.baud = s.baud ∧ s.returnPass.mport = s.mport ∧
    s.returnPass.fcl = s.fcl ∧ s.returnPass.sig = s.sig ∧ s.returnPass.din = s.din ∧ s.returnPass.wen = s.wen ∧
    s.returnPass.lac.materials = s.lac.materials ∧ s.returnPass.cport = s.cport ∧ s.returnPass.mgt = s.mgt ∧
    s.returnPass.freeCount = s.freeCount ∧ s.returnPass.pending = s.pending := by
  simp only [State.returnPass]
  simp

@[simp] theorem State.cycleTo_frame (next : CycleState) (t : Time) (s : State) :
    (s.cycleTo next t).time = s.time ∧ (s.cycleTo next t).baud = s.baud ∧ (s.cycleTo next t).mport = s.mport ∧
    (s.cycleTo next t).fcl = s.fcl ∧ (s.cycleTo next t).sig = s.sig ∧ (s.cycleTo next t).din = s.din ∧
    (s.cycleTo next t).wen = s.wen ∧ (s.cycleTo next t).lac.materials = s.lac.materials ∧
    (s.cycleTo next t).cport = s.cport ∧ (s.cycleTo next t).mgt = s.mgt ∧
    (s.cycleTo next t).freeCount = s.freeCount ∧ (s.cycleTo next t).pending = s.pending := by
  simp only [State.cycleTo]
  (repeat' split) <;> simp [Cyt.enterDig]

@[simp] theorem State.evaluate_frame (t : Time) (s : State) :
    (s.evaluate t).time = s.time ∧ (s.evaluate t).baud = s.baud ∧ (s.evaluate t).mport = s.mport ∧
    (s.evaluate t).fcl = s.fcl ∧ (s.evaluate t).sig = s.sig ∧ (s.evaluate t).din = s.din ∧
    (s.evaluate t).wen = s.wen ∧ (s.evaluate t).lac.materials = s.lac.materials ∧ (s.evaluate t).cport = s.cport ∧
    (s.evaluate t).mgt = s.mgt ∧ (s.evaluate t).freeCount = s.freeCount ∧ (s.evaluate t).pending = s.pending := by
  simp only [State.evaluate]
  (repeat' split) <;> simp

@[simp] theorem State.dumpRecord_frame (t : Time) (s : State) :
    (s.dumpRecord t).time = s.time ∧ (s.dumpRecord t).baud = s.baud ∧ (s.dumpRecord t).mport = s.mport ∧
    (s.dumpRecord t).fcl = s.fcl ∧ (s.dumpRecord t).sig = s.sig ∧ (s.dumpRecord t).din = s.din ∧
    (s.dumpRecord t).wen = s.wen ∧ (s.dumpRecord t).cyt = s.cyt ∧ (s.dumpRecord t).lac.materials = s.lac.materials ∧
    (s.dumpRecord t).cport.m = s.cport.m ∧ (s.dumpRecord t).cport.carrying = s.cport.carrying ∧
    (s.dumpRecord t).cport.tx = s.cport.tx ∧ (s.dumpRecord t).cport.budget = s.cport.budget ∧
    (s.dumpRecord t).mgt.mode = s.mgt.mode ∧ (s.dumpRecord t).mgt.deferred = s.mgt.deferred ∧
    (s.dumpRecord t).mgt.assembly = s.mgt.assembly ∧ (s.dumpRecord t).mgt.mask = s.mgt.mask ∧
    (s.dumpRecord t).mgt.node = s.mgt.node ∧ (s.dumpRecord t).freeCount = s.freeCount ∧
    (s.dumpRecord t).pending = s.pending := by
  simp only [State.dumpRecord]
  (repeat' split) <;> simp

@[simp] theorem State.dumpEvent_frame (t : Time) (s : State) :
    (s.dumpEvent t).time = s.time ∧ (s.dumpEvent t).baud = s.baud ∧ (s.dumpEvent t).mport = s.mport ∧
    (s.dumpEvent t).fcl = s.fcl ∧ (s.dumpEvent t).sig = s.sig ∧ (s.dumpEvent t).din = s.din ∧
    (s.dumpEvent t).wen.record = s.wen.record ∧ (s.dumpEvent t).wen.curveE = s.wen.curveE ∧
    (s.dumpEvent t).wen.curveL = s.wen.curveL ∧ (s.dumpEvent t).wen.bands = s.wen.bands ∧
    (s.dumpEvent t).wen.calibration = s.wen.calibration ∧ (s.dumpEvent t).lac.materials = s.lac.materials ∧
    (s.dumpEvent t).cport.m = s.cport.m ∧ (s.dumpEvent t).cport.carrying = s.cport.carrying ∧
    (s.dumpEvent t).cport.tx = s.cport.tx ∧ (s.dumpEvent t).cport.budget = s.cport.budget ∧
    (s.dumpEvent t).mgt.mode = s.mgt.mode ∧ (s.dumpEvent t).mgt.deferred = s.mgt.deferred ∧
    (s.dumpEvent t).mgt.assembly = s.mgt.assembly ∧ (s.dumpEvent t).mgt.mask = s.mgt.mask ∧
    (s.dumpEvent t).mgt.node = s.mgt.node ∧ (s.dumpEvent t).freeCount = s.freeCount ∧
    (s.dumpEvent t).pending = s.pending := by
  simp only [State.dumpEvent]
  (repeat' split) <;> simp

@[simp] theorem State.tipTest_frame (v : Int) (t : Time) (s : State) :
    (s.tipTest v t).time = s.time ∧ (s.tipTest v t).baud = s.baud ∧ (s.tipTest v t).mport = s.mport ∧
    (s.tipTest v t).fcl = s.fcl ∧ (s.tipTest v t).sig = s.sig ∧ (s.tipTest v t).din = s.din ∧
    (s.tipTest v t).wen.record = s.wen.record ∧ (s.tipTest v t).wen.curveE = s.wen.curveE ∧
    (s.tipTest v t).wen.curveL = s.wen.curveL ∧ (s.tipTest v t).wen.bands = s.wen.bands ∧
    (s.tipTest v t).wen.calibration = s.wen.calibration ∧ (s.tipTest v t).lac.materials = s.lac.materials ∧
    (s.tipTest v t).cport.m = s.cport.m ∧ (s.tipTest v t).cport.carrying = s.cport.carrying ∧
    (s.tipTest v t).cport.tx = s.cport.tx ∧ (s.tipTest v t).cport.budget = s.cport.budget ∧
    (s.tipTest v t).mgt.mode = s.mgt.mode ∧ (s.tipTest v t).mgt.deferred = s.mgt.deferred ∧
    (s.tipTest v t).mgt.assembly = s.mgt.assembly ∧ (s.tipTest v t).mgt.mask = s.mgt.mask ∧
    (s.tipTest v t).mgt.node = s.mgt.node ∧ (s.tipTest v t).freeCount = s.freeCount ∧
    (s.tipTest v t).pending = s.pending := by
  simp only [State.tipTest]
  (repeat' split) <;> simp

@[simp] theorem State.noteLatest_frame (t : Time) (s : State) :
    (s.noteLatest t).time = s.time ∧ (s.noteLatest t).baud = s.baud ∧ (s.noteLatest t).mport = s.mport ∧
    (s.noteLatest t).fcl = s.fcl ∧ (s.noteLatest t).sig = s.sig ∧ (s.noteLatest t).din = s.din ∧
    (s.noteLatest t).wen.record = s.wen.record ∧ (s.noteLatest t).wen.curveE = s.wen.curveE ∧
    (s.noteLatest t).wen.curveL = s.wen.curveL ∧ (s.noteLatest t).wen.bands = s.wen.bands ∧
    (s.noteLatest t).wen.window = s.wen.window ∧ (s.noteLatest t).wen.calibration = s.wen.calibration ∧
    (s.noteLatest t).cyt = s.cyt ∧ (s.noteLatest t).lac = s.lac ∧ (s.noteLatest t).cport = s.cport ∧
    (s.noteLatest t).mgt = s.mgt ∧ (s.noteLatest t).freeCount = s.freeCount ∧ (s.noteLatest t).pending = s.pending := by
  simp only [State.noteLatest]
  (repeat' split) <;> simp

@[simp] theorem State.raiseOverspeed_frame (w : Window) (o : SampleOutcome) (t : Time) (s : State) :
    (s.raiseOverspeed w o t).time = s.time ∧ (s.raiseOverspeed w o t).baud = s.baud ∧
    (s.raiseOverspeed w o t).mport = s.mport ∧ (s.raiseOverspeed w o t).fcl = s.fcl ∧
    (s.raiseOverspeed w o t).sig = s.sig ∧ (s.raiseOverspeed w o t).din = s.din ∧
    (s.raiseOverspeed w o t).wen = s.wen ∧ (s.raiseOverspeed w o t).cyt = s.cyt ∧
    (s.raiseOverspeed w o t).lac = s.lac ∧ (s.raiseOverspeed w o t).cport.m = s.cport.m ∧
    (s.raiseOverspeed w o t).cport.carrying = s.cport.carrying ∧ (s.raiseOverspeed w o t).cport.tx = s.cport.tx ∧
    (s.raiseOverspeed w o t).cport.budget = s.cport.budget ∧ (s.raiseOverspeed w o t).mgt.mode = s.mgt.mode ∧
    (s.raiseOverspeed w o t).mgt.deferred = s.mgt.deferred ∧
    (s.raiseOverspeed w o t).mgt.assembly = s.mgt.assembly ∧ (s.raiseOverspeed w o t).mgt.mask = s.mgt.mask ∧
    (s.raiseOverspeed w o t).mgt.node = s.mgt.node ∧ (s.raiseOverspeed w o t).freeCount = s.freeCount ∧
    (s.raiseOverspeed w o t).pending = s.pending := by
  simp only [State.raiseOverspeed]
  (repeat' split) <;> simp

@[simp] theorem State.weighSample_frame (r : MachineRecord) (t : Time) (s : State) :
    (s.weighSample r t).time = s.time ∧ (s.weighSample r t).baud = s.baud ∧ (s.weighSample r t).mport = s.mport ∧
    (s.weighSample r t).fcl = s.fcl ∧ (s.weighSample r t).sig = s.sig ∧ (s.weighSample r t).din = s.din ∧
    (s.weighSample r t).wen.record = s.wen.record ∧ (s.weighSample r t).wen.curveE = s.wen.curveE ∧
    (s.weighSample r t).wen.curveL = s.wen.curveL ∧ (s.weighSample r t).wen.bands = s.wen.bands ∧
    (s.weighSample r t).wen.calibration = s.wen.calibration ∧ (s.weighSample r t).cyt = s.cyt ∧
    (s.weighSample r t).lac = s.lac ∧ (s.weighSample r t).cport.m = s.cport.m ∧
    (s.weighSample r t).cport.carrying = s.cport.carrying ∧ (s.weighSample r t).cport.tx = s.cport.tx ∧
    (s.weighSample r t).cport.budget = s.cport.budget ∧ (s.weighSample r t).mgt.mode = s.mgt.mode ∧
    (s.weighSample r t).mgt.deferred = s.mgt.deferred ∧ (s.weighSample r t).mgt.assembly = s.mgt.assembly ∧
    (s.weighSample r t).mgt.mask = s.mgt.mask ∧ (s.weighSample r t).mgt.node = s.mgt.node ∧
    (s.weighSample r t).freeCount = s.freeCount ∧ (s.weighSample r t).pending = s.pending := by
  simp only [State.weighSample]
  (repeat' split) <;> simp

@[simp] theorem State.openTest_frame (r : MachineRecord) (theta : Option Int) (t : Time) (s : State) :
    (s.openTest r theta t).time = s.time ∧ (s.openTest r theta t).baud = s.baud ∧
    (s.openTest r theta t).mport = s.mport ∧ (s.openTest r theta t).fcl = s.fcl ∧
    (s.openTest r theta t).sig = s.sig ∧ (s.openTest r theta t).din = s.din ∧
    (s.openTest r theta t).wen.record = s.wen.record ∧ (s.openTest r theta t).wen.curveE = s.wen.curveE ∧
    (s.openTest r theta t).wen.curveL = s.wen.curveL ∧ (s.openTest r theta t).wen.bands = s.wen.bands ∧
    (s.openTest r theta t).wen.calibration = s.wen.calibration ∧ (s.openTest r theta t).cyt = s.cyt ∧
    (s.openTest r theta t).lac = s.lac ∧ (s.openTest r theta t).cport = s.cport ∧
    (s.openTest r theta t).mgt = s.mgt ∧ (s.openTest r theta t).freeCount = s.freeCount ∧
    (s.openTest r theta t).pending = s.pending := by
  simp only [State.openTest]
  (repeat' split) <;> simp

@[simp] theorem State.endTest_frame (r : MachineRecord) (theta : Option Int) (t : Time) (s : State) :
    (s.endTest r theta t).time = s.time ∧ (s.endTest r theta t).baud = s.baud ∧
    (s.endTest r theta t).mport = s.mport ∧ (s.endTest r theta t).fcl = s.fcl ∧ (s.endTest r theta t).sig = s.sig ∧
    (s.endTest r theta t).din = s.din ∧ (s.endTest r theta t).wen.record = s.wen.record ∧
    (s.endTest r theta t).wen.curveE = s.wen.curveE ∧ (s.endTest r theta t).wen.curveL = s.wen.curveL ∧
    (s.endTest r theta t).wen.bands = s.wen.bands ∧ (s.endTest r theta t).wen.calibration = s.wen.calibration ∧
    (s.endTest r theta t).lac = s.lac ∧ (s.endTest r theta t).cport.m = s.cport.m ∧
    (s.endTest r theta t).cport.carrying = s.cport.carrying ∧ (s.endTest r theta t).cport.tx = s.cport.tx ∧
    (s.endTest r theta t).cport.budget = s.cport.budget ∧ (s.endTest r theta t).mgt.mode = s.mgt.mode ∧
    (s.endTest r theta t).mgt.deferred = s.mgt.deferred ∧ (s.endTest r theta t).mgt.assembly = s.mgt.assembly ∧
    (s.endTest r theta t).mgt.mask = s.mgt.mask ∧ (s.endTest r theta t).mgt.node = s.mgt.node ∧
    (s.endTest r theta t).freeCount = s.freeCount ∧ (s.endTest r theta t).pending = s.pending := by
  simp only [State.endTest]
  (repeat' split) <;> simp

@[simp] theorem State.testPoint_frame (isHead : Bool) (t : Time) (s : State) :
    (s.testPoint isHead t).time = s.time ∧ (s.testPoint isHead t).baud = s.baud ∧
    (s.testPoint isHead t).mport = s.mport ∧ (s.testPoint isHead t).fcl = s.fcl ∧
    (s.testPoint isHead t).sig = s.sig ∧ (s.testPoint isHead t).din = s.din ∧
    (s.testPoint isHead t).wen.record = s.wen.record ∧ (s.testPoint isHead t).wen.curveE = s.wen.curveE ∧
    (s.testPoint isHead t).wen.curveL = s.wen.curveL ∧ (s.testPoint isHead t).wen.bands = s.wen.bands ∧
    (s.testPoint isHead t).wen.calibration = s.wen.calibration ∧ (s.testPoint isHead t).lac = s.lac ∧
    (s.testPoint isHead t).cport.m = s.cport.m ∧ (s.testPoint isHead t).cport.carrying = s.cport.carrying ∧
    (s.testPoint isHead t).cport.tx = s.cport.tx ∧ (s.testPoint isHead t).cport.budget = s.cport.budget ∧
    (s.testPoint isHead t).mgt.mode = s.mgt.mode ∧ (s.testPoint isHead t).mgt.deferred = s.mgt.deferred ∧
    (s.testPoint isHead t).mgt.assembly = s.mgt.assembly ∧ (s.testPoint isHead t).mgt.mask = s.mgt.mask ∧
    (s.testPoint isHead t).mgt.node = s.mgt.node ∧ (s.testPoint isHead t).freeCount = s.freeCount ∧
    (s.testPoint isHead t).pending = s.pending := by
  simp only [State.testPoint]
  (repeat' split) <;> simp

@[simp] theorem State.leaveRun_frame (s : State) :
    s.leaveRun.time = s.time ∧ s.leaveRun.baud = s.baud ∧ s.leaveRun.mport = s.mport ∧ s.leaveRun.fcl = s.fcl ∧
    s.leaveRun.sig = s.sig ∧ s.leaveRun.din = s.din ∧ s.leaveRun.wen.record = s.wen.record ∧
    s.leaveRun.wen.curveE = s.wen.curveE ∧ s.leaveRun.wen.curveL = s.wen.curveL ∧
    s.leaveRun.wen.bands = s.wen.bands ∧ s.leaveRun.wen.window = s.wen.window ∧
    s.leaveRun.wen.calibration = s.wen.calibration ∧ s.leaveRun.lac = s.lac ∧ s.leaveRun.cport = s.cport ∧
    s.leaveRun.mgt = s.mgt ∧ s.leaveRun.freeCount = s.freeCount ∧ s.leaveRun.pending = s.pending := by
  simp only [State.leaveRun]
  simp

@[simp] theorem State.enterRun_frame (s : State) :
    s.enterRun.time = s.time ∧ s.enterRun.baud = s.baud ∧ s.enterRun.mport = s.mport ∧ s.enterRun.fcl = s.fcl ∧
    s.enterRun.sig = s.sig ∧ s.enterRun.din = s.din ∧ s.enterRun.wen.record = s.wen.record ∧
    s.enterRun.wen.curveE = s.wen.curveE ∧ s.enterRun.wen.curveL = s.wen.curveL ∧
    s.enterRun.wen.bands = s.wen.bands ∧ s.enterRun.wen.window = s.wen.window ∧
    s.enterRun.wen.calibration = s.wen.calibration ∧ s.enterRun.lac = s.lac ∧ s.enterRun.cport = s.cport ∧
    s.enterRun.mgt = s.mgt ∧ s.enterRun.freeCount = s.freeCount ∧ s.enterRun.pending = s.pending := by
  simp only [State.enterRun]
  simp

@[simp] theorem State.changeMode_frame (m : ModeTarget) (cause : NoticeCause) (t : Time) (s : State) :
    (s.changeMode m cause t).time = s.time ∧ (s.changeMode m cause t).baud = s.baud ∧
    (s.changeMode m cause t).mport = s.mport ∧ (s.changeMode m cause t).fcl = s.fcl ∧
    (s.changeMode m cause t).sig = s.sig ∧ (s.changeMode m cause t).din = s.din ∧
    (s.changeMode m cause t).wen.record = s.wen.record ∧ (s.changeMode m cause t).wen.curveE = s.wen.curveE ∧
    (s.changeMode m cause t).wen.curveL = s.wen.curveL ∧ (s.changeMode m cause t).wen.bands = s.wen.bands ∧
    (s.changeMode m cause t).wen.window = s.wen.window ∧ (s.changeMode m cause t).lac = s.lac ∧
    (s.changeMode m cause t).cport.m = s.cport.m ∧ (s.changeMode m cause t).cport.carrying = s.cport.carrying ∧
    (s.changeMode m cause t).cport.tx = s.cport.tx ∧ (s.changeMode m cause t).cport.budget = s.cport.budget ∧
    (s.changeMode m cause t).mgt.deferred = s.mgt.deferred ∧
    (s.changeMode m cause t).mgt.assembly = s.mgt.assembly ∧ (s.changeMode m cause t).mgt.mask = s.mgt.mask ∧
    (s.changeMode m cause t).mgt.node = s.mgt.node ∧ (s.changeMode m cause t).freeCount = s.freeCount ∧
    (s.changeMode m cause t).pending = s.pending := by
  simp only [State.changeMode]
  (repeat' split) <;> simp

@[simp] theorem State.applyDeferred_frame (t : Time) (s : State) :
    (s.applyDeferred t).time = s.time ∧ (s.applyDeferred t).baud = s.baud ∧ (s.applyDeferred t).mport = s.mport ∧
    (s.applyDeferred t).fcl = s.fcl ∧ (s.applyDeferred t).sig = s.sig ∧ (s.applyDeferred t).din = s.din ∧
    (s.applyDeferred t).wen.record = s.wen.record ∧ (s.applyDeferred t).wen.curveE = s.wen.curveE ∧
    (s.applyDeferred t).wen.curveL = s.wen.curveL ∧ (s.applyDeferred t).wen.bands = s.wen.bands ∧
    (s.applyDeferred t).wen.window = s.wen.window ∧ (s.applyDeferred t).lac = s.lac ∧
    (s.applyDeferred t).cport.m = s.cport.m ∧ (s.applyDeferred t).cport.carrying = s.cport.carrying ∧
    (s.applyDeferred t).cport.tx = s.cport.tx ∧ (s.applyDeferred t).cport.budget = s.cport.budget ∧
    (s.applyDeferred t).mgt.assembly = s.mgt.assembly ∧ (s.applyDeferred t).mgt.mask = s.mgt.mask ∧
    (s.applyDeferred t).mgt.node = s.mgt.node ∧ (s.applyDeferred t).freeCount = s.freeCount ∧
    (s.applyDeferred t).pending = s.pending := by
  simp only [State.applyDeferred]
  (repeat' split) <;> simp

@[simp] theorem State.progress_frame (target : CurveName) (run points : Nat) (o : ProgressOutcome) (t : Time) (s : State) :
    (s.progress target run points o t).time = s.time ∧ (s.progress target run points o t).baud = s.baud ∧
    (s.progress target run points o t).mport = s.mport ∧ (s.progress target run points o t).fcl = s.fcl ∧
    (s.progress target run points o t).sig = s.sig ∧ (s.progress target run points o t).din = s.din ∧
    (s.progress target run points o t).wen = s.wen ∧ (s.progress target run points o t).cyt = s.cyt ∧
    (s.progress target run points o t).lac = s.lac ∧ (s.progress target run points o t).cport.m = s.cport.m ∧
    (s.progress target run points o t).cport.carrying = s.cport.carrying ∧
    (s.progress target run points o t).cport.tx = s.cport.tx ∧
    (s.progress target run points o t).cport.budget = s.cport.budget ∧
    (s.progress target run points o t).mgt.mode = s.mgt.mode ∧
    (s.progress target run points o t).mgt.deferred = s.mgt.deferred ∧
    (s.progress target run points o t).mgt.assembly = s.mgt.assembly ∧
    (s.progress target run points o t).mgt.mask = s.mgt.mask ∧
    (s.progress target run points o t).mgt.node = s.mgt.node ∧
    (s.progress target run points o t).freeCount = s.freeCount ∧
    (s.progress target run points o t).pending = s.pending := by
  simp only [State.progress]
  simp

@[simp] theorem State.setCal_frame (c : Calibration) (s : State) :
    (s.setCal c).time = s.time ∧ (s.setCal c).baud = s.baud ∧ (s.setCal c).mport = s.mport ∧
    (s.setCal c).fcl = s.fcl ∧ (s.setCal c).sig = s.sig ∧ (s.setCal c).din = s.din ∧
    (s.setCal c).wen.record = s.wen.record ∧ (s.setCal c).wen.curveE = s.wen.curveE ∧
    (s.setCal c).wen.curveL = s.wen.curveL ∧ (s.setCal c).wen.bands = s.wen.bands ∧
    (s.setCal c).wen.window = s.wen.window ∧ (s.setCal c).cyt = s.cyt ∧ (s.setCal c).lac = s.lac ∧
    (s.setCal c).cport = s.cport ∧ (s.setCal c).mgt = s.mgt ∧ (s.setCal c).freeCount = s.freeCount ∧
    (s.setCal c).pending = s.pending := by
  simp only [State.setCal]
  simp

@[simp] theorem State.breakRun_frame (reason : BreakReason) (t : Time) (s : State) :
    (s.breakRun reason t).time = s.time ∧ (s.breakRun reason t).baud = s.baud ∧
    (s.breakRun reason t).mport = s.mport ∧ (s.breakRun reason t).fcl = s.fcl ∧ (s.breakRun reason t).sig = s.sig ∧
    (s.breakRun reason t).din = s.din ∧ (s.breakRun reason t).wen.record = s.wen.record ∧
    (s.breakRun reason t).wen.curveE = s.wen.curveE ∧ (s.breakRun reason t).wen.curveL = s.wen.curveL ∧
    (s.breakRun reason t).wen.bands = s.wen.bands ∧ (s.breakRun reason t).wen.window = s.wen.window ∧
    (s.breakRun reason t).cyt = s.cyt ∧ (s.breakRun reason t).lac = s.lac ∧
    (s.breakRun reason t).cport.m = s.cport.m ∧ (s.breakRun reason t).cport.carrying = s.cport.carrying ∧
    (s.breakRun reason t).cport.tx = s.cport.tx ∧ (s.breakRun reason t).cport.budget = s.cport.budget ∧
    (s.breakRun reason t).mgt.mode = s.mgt.mode ∧ (s.breakRun reason t).mgt.deferred = s.mgt.deferred ∧
    (s.breakRun reason t).mgt.assembly = s.mgt.assembly ∧ (s.breakRun reason t).mgt.mask = s.mgt.mask ∧
    (s.breakRun reason t).mgt.node = s.mgt.node ∧ (s.breakRun reason t).freeCount = s.freeCount ∧
    (s.breakRun reason t).pending = s.pending := by
  simp only [State.breakRun]
  (repeat' split) <;> simp

@[simp] theorem State.interruptRun_frame (reason : BreakReason) (t : Time) (s : State) :
    (s.interruptRun reason t).time = s.time ∧ (s.interruptRun reason t).baud = s.baud ∧
    (s.interruptRun reason t).mport = s.mport ∧ (s.interruptRun reason t).fcl = s.fcl ∧
    (s.interruptRun reason t).sig = s.sig ∧ (s.interruptRun reason t).din = s.din ∧
    (s.interruptRun reason t).wen.record = s.wen.record ∧ (s.interruptRun reason t).wen.curveE = s.wen.curveE ∧
    (s.interruptRun reason t).wen.curveL = s.wen.curveL ∧ (s.interruptRun reason t).wen.bands = s.wen.bands ∧
    (s.interruptRun reason t).wen.window = s.wen.window ∧ (s.interruptRun reason t).cyt = s.cyt ∧
    (s.interruptRun reason t).lac = s.lac ∧ (s.interruptRun reason t).cport.m = s.cport.m ∧
    (s.interruptRun reason t).cport.carrying = s.cport.carrying ∧ (s.interruptRun reason t).cport.tx = s.cport.tx ∧
    (s.interruptRun reason t).cport.budget = s.cport.budget ∧ (s.interruptRun reason t).mgt.mode = s.mgt.mode ∧
    (s.interruptRun reason t).mgt.deferred = s.mgt.deferred ∧
    (s.interruptRun reason t).mgt.assembly = s.mgt.assembly ∧ (s.interruptRun reason t).mgt.mask = s.mgt.mask ∧
    (s.interruptRun reason t).mgt.node = s.mgt.node ∧ (s.interruptRun reason t).freeCount = s.freeCount ∧
    (s.interruptRun reason t).pending = s.pending := by
  simp only [State.interruptRun]
  (repeat' split) <;> simp

@[simp] theorem State.completeCalibration_frame (c : Calibration) (points : Nat) (t : Time) (s : State) :
    (s.completeCalibration c points t).time = s.time ∧ (s.completeCalibration c points t).baud = s.baud ∧
    (s.completeCalibration c points t).mport = s.mport ∧ (s.completeCalibration c points t).fcl = s.fcl ∧
    (s.completeCalibration c points t).sig = s.sig ∧ (s.completeCalibration c points t).din = s.din ∧
    (s.completeCalibration c points t).wen.record = s.wen.record ∧
    (s.completeCalibration c points t).wen.bands = s.wen.bands ∧
    (s.completeCalibration c points t).wen.window = s.wen.window ∧ (s.completeCalibration c points t).lac = s.lac ∧
    (s.completeCalibration c points t).cport.m = s.cport.m ∧
    (s.completeCalibration c points t).cport.carrying = s.cport.carrying ∧
    (s.completeCalibration c points t).cport.tx = s.cport.tx ∧
    (s.completeCalibration c points t).cport.budget = s.cport.budget ∧
    (s.completeCalibration c points t).mgt.deferred = s.mgt.deferred ∧
    (s.completeCalibration c points t).mgt.assembly = s.mgt.assembly ∧
    (s.completeCalibration c points t).mgt.mask = s.mgt.mask ∧
    (s.completeCalibration c points t).mgt.node = s.mgt.node ∧
    (s.completeCalibration c points t).freeCount = s.freeCount ∧
    (s.completeCalibration c points t).pending = s.pending := by
  simp only [State.completeCalibration]
  simp

@[simp] theorem State.runDone_frame (c : Calibration) (points : Nat) (t : Time) (s : State) :
    (s.runDone c points t).time = s.time ∧ (s.runDone c points t).baud = s.baud ∧
    (s.runDone c points t).mport = s.mport ∧ (s.runDone c points t).fcl = s.fcl ∧
    (s.runDone c points t).sig = s.sig ∧ (s.runDone c points t).din = s.din ∧
    (s.runDone c points t).wen.record = s.wen.record ∧ (s.runDone c points t).wen.bands = s.wen.bands ∧
    (s.runDone c points t).wen.window = s.wen.window ∧ (s.runDone c points t).lac = s.lac ∧
    (s.runDone c points t).cport.m = s.cport.m ∧ (s.runDone c points t).cport.carrying = s.cport.carrying ∧
    (s.runDone c points t).cport.tx = s.cport.tx ∧ (s.runDone c points t).cport.budget = s.cport.budget ∧
    (s.runDone c points t).mgt.deferred = s.mgt.deferred ∧ (s.runDone c points t).mgt.assembly = s.mgt.assembly ∧
    (s.runDone c points t).mgt.mask = s.mgt.mask ∧ (s.runDone c points t).mgt.node = s.mgt.node ∧
    (s.runDone c points t).freeCount = s.freeCount ∧ (s.runDone c points t).pending = s.pending := by
  simp only [State.runDone]
  (repeat' split) <;> simp

@[simp] theorem State.capturePoints_frame (r : MachineRecord) (c : Calibration) (th0 f0 highest : Int) (values : List Int) (th1 f1 : Int)
    (t : Time) (s : State) :
    (s.capturePoints r c th0 f0 highest values th1 f1 t).time = s.time ∧
    (s.capturePoints r c th0 f0 highest values th1 f1 t).baud = s.baud ∧
    (s.capturePoints r c th0 f0 highest values th1 f1 t).mport = s.mport ∧
    (s.capturePoints r c th0 f0 highest values th1 f1 t).fcl = s.fcl ∧
    (s.capturePoints r c th0 f0 highest values th1 f1 t).sig = s.sig ∧
    (s.capturePoints r c th0 f0 highest values th1 f1 t).din = s.din ∧
    (s.capturePoints r c th0 f0 highest values th1 f1 t).wen.record = s.wen.record ∧
    (s.capturePoints r c th0 f0 highest values th1 f1 t).wen.bands = s.wen.bands ∧
    (s.capturePoints r c th0 f0 highest values th1 f1 t).wen.window = s.wen.window ∧
    (s.capturePoints r c th0 f0 highest values th1 f1 t).lac = s.lac ∧
    (s.capturePoints r c th0 f0 highest values th1 f1 t).cport.m = s.cport.m ∧
    (s.capturePoints r c th0 f0 highest values th1 f1 t).cport.carrying = s.cport.carrying ∧
    (s.capturePoints r c th0 f0 highest values th1 f1 t).cport.tx = s.cport.tx ∧
    (s.capturePoints r c th0 f0 highest values th1 f1 t).cport.budget = s.cport.budget ∧
    (s.capturePoints r c th0 f0 highest values th1 f1 t).mgt.deferred = s.mgt.deferred ∧
    (s.capturePoints r c th0 f0 highest values th1 f1 t).mgt.assembly = s.mgt.assembly ∧
    (s.capturePoints r c th0 f0 highest values th1 f1 t).mgt.mask = s.mgt.mask ∧
    (s.capturePoints r c th0 f0 highest values th1 f1 t).mgt.node = s.mgt.node ∧
    (s.capturePoints r c th0 f0 highest values th1 f1 t).freeCount = s.freeCount ∧
    (s.capturePoints r c th0 f0 highest values th1 f1 t).pending = s.pending := by
  simp only [State.capturePoints]
  (repeat' split) <;> simp

@[simp] theorem State.armedSample_frame (r : MachineRecord) (c : Calibration) (start : Option (Int × Int)) (th f : Int) (t : Time) (s : State) :
    (s.armedSample r c start th f t).time = s.time ∧ (s.armedSample r c start th f t).baud = s.baud ∧
    (s.armedSample r c start th f t).mport = s.mport ∧ (s.armedSample r c start th f t).fcl = s.fcl ∧
    (s.armedSample r c start th f t).sig = s.sig ∧ (s.armedSample r c start th f t).din = s.din ∧
    (s.armedSample r c start th f t).wen.record = s.wen.record ∧
    (s.armedSample r c start th f t).wen.bands = s.wen.bands ∧
    (s.armedSample r c start th f t).wen.window = s.wen.window ∧ (s.armedSample r c start th f t).lac = s.lac ∧
    (s.armedSample r c start th f t).cport.m = s.cport.m ∧
    (s.armedSample r c start th f t).cport.carrying = s.cport.carrying ∧
    (s.armedSample r c start th f t).cport.tx = s.cport.tx ∧
    (s.armedSample r c start th f t).cport.budget = s.cport.budget ∧
    (s.armedSample r c start th f t).mgt.deferred = s.mgt.deferred ∧
    (s.armedSample r c start th f t).mgt.assembly = s.mgt.assembly ∧
    (s.armedSample r c start th f t).mgt.mask = s.mgt.mask ∧
    (s.armedSample r c start th f t).mgt.node = s.mgt.node ∧
    (s.armedSample r c start th f t).freeCount = s.freeCount ∧ (s.armedSample r c start th f t).pending = s.pending := by
  simp only [State.armedSample]
  (repeat' split) <;> simp

@[simp] theorem State.calHead_frame (r : MachineRecord) (c : Calibration) (t : Time) (s : State) :
    (s.calHead r c t).time = s.time ∧ (s.calHead r c t).baud = s.baud ∧ (s.calHead r c t).mport = s.mport ∧
    (s.calHead r c t).fcl = s.fcl ∧ (s.calHead r c t).sig = s.sig ∧ (s.calHead r c t).din = s.din ∧
    (s.calHead r c t).wen.record = s.wen.record ∧ (s.calHead r c t).wen.bands = s.wen.bands ∧
    (s.calHead r c t).wen.window = s.wen.window ∧ (s.calHead r c t).lac = s.lac ∧
    (s.calHead r c t).cport.m = s.cport.m ∧ (s.calHead r c t).cport.carrying = s.cport.carrying ∧
    (s.calHead r c t).cport.tx = s.cport.tx ∧ (s.calHead r c t).cport.budget = s.cport.budget ∧
    (s.calHead r c t).mgt.deferred = s.mgt.deferred ∧ (s.calHead r c t).mgt.assembly = s.mgt.assembly ∧
    (s.calHead r c t).mgt.mask = s.mgt.mask ∧ (s.calHead r c t).mgt.node = s.mgt.node ∧
    (s.calHead r c t).freeCount = s.freeCount ∧ (s.calHead r c t).pending = s.pending := by
  simp only [State.calHead]
  (repeat' split) <;> simp

@[simp] theorem State.calBoom_frame (r : MachineRecord) (c : Calibration) (t : Time) (s : State) :
    (s.calBoom r c t).time = s.time ∧ (s.calBoom r c t).baud = s.baud ∧ (s.calBoom r c t).mport = s.mport ∧
    (s.calBoom r c t).fcl = s.fcl ∧ (s.calBoom r c t).sig = s.sig ∧ (s.calBoom r c t).din = s.din ∧
    (s.calBoom r c t).wen.record = s.wen.record ∧ (s.calBoom r c t).wen.curveE = s.wen.curveE ∧
    (s.calBoom r c t).wen.curveL = s.wen.curveL ∧ (s.calBoom r c t).wen.bands = s.wen.bands ∧
    (s.calBoom r c t).wen.window = s.wen.window ∧ (s.calBoom r c t).cyt = s.cyt ∧ (s.calBoom r c t).lac = s.lac ∧
    (s.calBoom r c t).cport.m = s.cport.m ∧ (s.calBoom r c t).cport.carrying = s.cport.carrying ∧
    (s.calBoom r c t).cport.tx = s.cport.tx ∧ (s.calBoom r c t).cport.budget = s.cport.budget ∧
    (s.calBoom r c t).mgt.mode = s.mgt.mode ∧ (s.calBoom r c t).mgt.deferred = s.mgt.deferred ∧
    (s.calBoom r c t).mgt.assembly = s.mgt.assembly ∧ (s.calBoom r c t).mgt.mask = s.mgt.mask ∧
    (s.calBoom r c t).mgt.node = s.mgt.node ∧ (s.calBoom r c t).freeCount = s.freeCount ∧
    (s.calBoom r c t).pending = s.pending := by
  simp only [State.calBoom]
  (repeat' split) <;> simp

@[simp] theorem State.calPoint_frame (isHead : Bool) (t : Time) (s : State) :
    (s.calPoint isHead t).time = s.time ∧ (s.calPoint isHead t).baud = s.baud ∧
    (s.calPoint isHead t).mport = s.mport ∧ (s.calPoint isHead t).fcl = s.fcl ∧ (s.calPoint isHead t).sig = s.sig ∧
    (s.calPoint isHead t).din = s.din ∧ (s.calPoint isHead t).wen.record = s.wen.record ∧
    (s.calPoint isHead t).wen.bands = s.wen.bands ∧ (s.calPoint isHead t).wen.window = s.wen.window ∧
    (s.calPoint isHead t).lac = s.lac ∧ (s.calPoint isHead t).cport.m = s.cport.m ∧
    (s.calPoint isHead t).cport.carrying = s.cport.carrying ∧ (s.calPoint isHead t).cport.tx = s.cport.tx ∧
    (s.calPoint isHead t).cport.budget = s.cport.budget ∧ (s.calPoint isHead t).mgt.deferred = s.mgt.deferred ∧
    (s.calPoint isHead t).mgt.assembly = s.mgt.assembly ∧ (s.calPoint isHead t).mgt.mask = s.mgt.mask ∧
    (s.calPoint isHead t).mgt.node = s.mgt.node ∧ (s.calPoint isHead t).freeCount = s.freeCount ∧
    (s.calPoint isHead t).pending = s.pending := by
  simp only [State.calPoint]
  (repeat' split) <;> simp

@[simp] theorem State.readAccepted_frame (r : Role) (v : Int) (t : Time) (s : State) :
    (s.readAccepted r v t).time = s.time ∧ (s.readAccepted r v t).baud = s.baud ∧
    (s.readAccepted r v t).mport = s.mport ∧ (s.readAccepted r v t).fcl = s.fcl ∧
    (s.readAccepted r v t).sig = s.sig ∧ (s.readAccepted r v t).din = s.din ∧
    (s.readAccepted r v t).wen.record = s.wen.record ∧ (s.readAccepted r v t).wen.bands = s.wen.bands ∧
    (s.readAccepted r v t).lac.materials = s.lac.materials ∧ (s.readAccepted r v t).cport.m = s.cport.m ∧
    (s.readAccepted r v t).cport.carrying = s.cport.carrying ∧ (s.readAccepted r v t).cport.tx = s.cport.tx ∧
    (s.readAccepted r v t).cport.budget = s.cport.budget ∧ (s.readAccepted r v t).mgt.assembly = s.mgt.assembly ∧
    (s.readAccepted r v t).mgt.mask = s.mgt.mask ∧ (s.readAccepted r v t).mgt.node = s.mgt.node ∧
    (s.readAccepted r v t).freeCount = s.freeCount ∧ (s.readAccepted r v t).pending = s.pending := by
  simp only [State.readAccepted]
  (repeat' split) <;> simp

@[simp] theorem State.takeValue_frame (r : Role) (v : Int) (t : Time) (timeout : Option Nat) (s : State) :
    (s.takeValue r v t timeout).time = s.time ∧ (s.takeValue r v t timeout).baud = s.baud ∧
    (s.takeValue r v t timeout).mport = s.mport ∧ (s.takeValue r v t timeout).fcl = s.fcl ∧
    (s.takeValue r v t timeout).sig.sxt = s.sig.sxt ∧ (s.takeValue r v t timeout).din = s.din ∧
    (s.takeValue r v t timeout).wen.record = s.wen.record ∧ (s.takeValue r v t timeout).wen.bands = s.wen.bands ∧
    (s.takeValue r v t timeout).lac.materials = s.lac.materials ∧ (s.takeValue r v t timeout).cport.m = s.cport.m ∧
    (s.takeValue r v t timeout).cport.carrying = s.cport.carrying ∧
    (s.takeValue r v t timeout).cport.tx = s.cport.tx ∧ (s.takeValue r v t timeout).cport.budget = s.cport.budget ∧
    (s.takeValue r v t timeout).mgt.assembly = s.mgt.assembly ∧ (s.takeValue r v t timeout).mgt.mask = s.mgt.mask ∧
    (s.takeValue r v t timeout).mgt.node = s.mgt.node ∧ (s.takeValue r v t timeout).freeCount = s.freeCount ∧
    (s.takeValue r v t timeout).pending = s.pending := by
  simp only [State.takeValue]
  simp

@[simp] theorem State.handOff_frame (bytes : List Byte) (t : Time) (i : Fin 16) (s : State) :
    (s.handOff bytes t i).time = s.time ∧ (s.handOff bytes t i).baud = s.baud ∧
    (s.handOff bytes t i).mport = s.mport ∧ (s.handOff bytes t i).fcl = s.fcl ∧
    (s.handOff bytes t i).sig.sxt = s.sig.sxt ∧ (s.handOff bytes t i).din = s.din ∧
    (s.handOff bytes t i).wen.record = s.wen.record ∧ (s.handOff bytes t i).wen.bands = s.wen.bands ∧
    (s.handOff bytes t i).lac.materials = s.lac.materials ∧ (s.handOff bytes t i).cport.m = s.cport.m ∧
    (s.handOff bytes t i).cport.carrying = s.cport.carrying ∧ (s.handOff bytes t i).cport.tx = s.cport.tx ∧
    (s.handOff bytes t i).cport.budget = s.cport.budget ∧ (s.handOff bytes t i).mgt.assembly = s.mgt.assembly ∧
    (s.handOff bytes t i).mgt.mask = s.mgt.mask ∧ (s.handOff bytes t i).mgt.node = s.mgt.node ∧
    (s.handOff bytes t i).freeCount = s.freeCount ∧ (s.handOff bytes t i).pending = s.pending := by
  simp only [State.handOff]
  (repeat' split) <;> simp

@[simp] theorem State.handOffRef_frame (bytes : List Byte) (t : Time) (ref : Option (Fin 16)) (s : State) :
    (s.handOffRef bytes t ref).time = s.time ∧ (s.handOffRef bytes t ref).baud = s.baud ∧
    (s.handOffRef bytes t ref).mport = s.mport ∧ (s.handOffRef bytes t ref).fcl = s.fcl ∧
    (s.handOffRef bytes t ref).sig.sxt = s.sig.sxt ∧ (s.handOffRef bytes t ref).din = s.din ∧
    (s.handOffRef bytes t ref).wen.record = s.wen.record ∧ (s.handOffRef bytes t ref).wen.bands = s.wen.bands ∧
    (s.handOffRef bytes t ref).lac.materials = s.lac.materials ∧ (s.handOffRef bytes t ref).cport.m = s.cport.m ∧
    (s.handOffRef bytes t ref).cport.carrying = s.cport.carrying ∧
    (s.handOffRef bytes t ref).cport.tx = s.cport.tx ∧ (s.handOffRef bytes t ref).cport.budget = s.cport.budget ∧
    (s.handOffRef bytes t ref).mgt.assembly = s.mgt.assembly ∧ (s.handOffRef bytes t ref).mgt.mask = s.mgt.mask ∧
    (s.handOffRef bytes t ref).mgt.node = s.mgt.node ∧ (s.handOffRef bytes t ref).freeCount = s.freeCount ∧
    (s.handOffRef bytes t ref).pending = s.pending := by
  simp only [State.handOffRef]
  (repeat' split) <;> simp

@[simp] theorem State.offerBoom_frame (t : Time) (s : State) :
    (s.offerBoom t).time = s.time ∧ (s.offerBoom t).baud = s.baud ∧ (s.offerBoom t).mport = s.mport ∧
    (s.offerBoom t).fcl = s.fcl ∧ (s.offerBoom t).sig.sxt = s.sig.sxt ∧ (s.offerBoom t).din = s.din ∧
    (s.offerBoom t).wen.record = s.wen.record ∧ (s.offerBoom t).wen.bands = s.wen.bands ∧
    (s.offerBoom t).lac.materials = s.lac.materials ∧ (s.offerBoom t).cport.m = s.cport.m ∧
    (s.offerBoom t).cport.carrying = s.cport.carrying ∧ (s.offerBoom t).cport.tx = s.cport.tx ∧
    (s.offerBoom t).cport.budget = s.cport.budget ∧ (s.offerBoom t).mgt.assembly = s.mgt.assembly ∧
    (s.offerBoom t).mgt.mask = s.mgt.mask ∧ (s.offerBoom t).mgt.node = s.mgt.node ∧
    (s.offerBoom t).freeCount = s.freeCount ∧ (s.offerBoom t).pending = s.pending := by
  simp only [State.offerBoom]
  (repeat' split) <;> simp

@[simp] theorem State.underPolicy_frame (p : Policy) (f : Frame) (s : State) :
    (s.underPolicy p f).time = s.time ∧ (s.underPolicy p f).baud = s.baud ∧ (s.underPolicy p f).mport = s.mport ∧
    (s.underPolicy p f).fcl = s.fcl ∧ (s.underPolicy p f).sig = s.sig ∧ (s.underPolicy p f).din = s.din ∧
    (s.underPolicy p f).wen = s.wen ∧ (s.underPolicy p f).cyt = s.cyt ∧ (s.underPolicy p f).lac = s.lac ∧
    (s.underPolicy p f).cport.m = s.cport.m ∧ (s.underPolicy p f).cport.carrying = s.cport.carrying ∧
    (s.underPolicy p f).cport.tx = s.cport.tx ∧ (s.underPolicy p f).cport.budget = s.cport.budget ∧
    (s.underPolicy p f).mgt = s.mgt ∧ (s.underPolicy p f).freeCount = s.freeCount ∧
    (s.underPolicy p f).pending = s.pending := by
  simp only [State.underPolicy]
  (repeat' split) <;> simp

@[simp] theorem State.forwardFrame_frame (i : Fin 48) (e : FatEntry) (f : Frame) (s : State) :
    (s.forwardFrame i e f).time = s.time ∧ (s.forwardFrame i e f).baud = s.baud ∧
    (s.forwardFrame i e f).mport = s.mport ∧ (s.forwardFrame i e f).fcl.fat = s.fcl.fat ∧
    (s.forwardFrame i e f).sig = s.sig ∧ (s.forwardFrame i e f).din = s.din ∧ (s.forwardFrame i e f).wen = s.wen ∧
    (s.forwardFrame i e f).cyt = s.cyt ∧ (s.forwardFrame i e f).lac = s.lac ∧
    (s.forwardFrame i e f).cport.m = s.cport.m ∧ (s.forwardFrame i e f).cport.carrying = s.cport.carrying ∧
    (s.forwardFrame i e f).cport.tx = s.cport.tx ∧ (s.forwardFrame i e f).cport.budget = s.cport.budget ∧
    (s.forwardFrame i e f).mgt = s.mgt ∧ (s.forwardFrame i e f).freeCount = s.freeCount ∧
    (s.forwardFrame i e f).pending = s.pending := by
  simp only [State.forwardFrame]
  (repeat' split) <;> simp [Fcl.setHolding]

@[simp] theorem State.extractFrame_frame (e : FatEntry) (f : Frame) (t : Time) (s : State) :
    (s.extractFrame e f t).time = s.time ∧ (s.extractFrame e f t).baud = s.baud ∧
    (s.extractFrame e f t).mport = s.mport ∧ (s.extractFrame e f t).fcl = s.fcl ∧
    (s.extractFrame e f t).sig.sxt = s.sig.sxt ∧ (s.extractFrame e f t).din = s.din ∧
    (s.extractFrame e f t).wen.record = s.wen.record ∧ (s.extractFrame e f t).wen.bands = s.wen.bands ∧
    (s.extractFrame e f t).lac.materials = s.lac.materials ∧ (s.extractFrame e f t).cport.m = s.cport.m ∧
    (s.extractFrame e f t).cport.carrying = s.cport.carrying ∧ (s.extractFrame e f t).cport.tx = s.cport.tx ∧
    (s.extractFrame e f t).cport.budget = s.cport.budget ∧ (s.extractFrame e f t).mgt.assembly = s.mgt.assembly ∧
    (s.extractFrame e f t).mgt.mask = s.mgt.mask ∧ (s.extractFrame e f t).mgt.node = s.mgt.node ∧
    (s.extractFrame e f t).freeCount = s.freeCount ∧ (s.extractFrame e f t).pending = s.pending := by
  simp only [State.extractFrame]
  (repeat' split) <;> simp

@[simp] theorem State.captureFrame_frame (copies : Bool) (f : Frame) (s : State) :
    (s.captureFrame copies f).time = s.time ∧ (s.captureFrame copies f).baud = s.baud ∧
    (s.captureFrame copies f).mport = s.mport ∧ (s.captureFrame copies f).fcl = s.fcl ∧
    (s.captureFrame copies f).sig = s.sig ∧ (s.captureFrame copies f).din = s.din ∧
    (s.captureFrame copies f).wen = s.wen ∧ (s.captureFrame copies f).cyt = s.cyt ∧
    (s.captureFrame copies f).lac = s.lac ∧ (s.captureFrame copies f).cport.m = s.cport.m ∧
    (s.captureFrame copies f).cport.carrying = s.cport.carrying ∧ (s.captureFrame copies f).cport.tx = s.cport.tx ∧
    (s.captureFrame copies f).mgt.mode = s.mgt.mode ∧ (s.captureFrame copies f).mgt.deferred = s.mgt.deferred ∧
    (s.captureFrame copies f).mgt.assembly = s.mgt.assembly ∧ (s.captureFrame copies f).mgt.mask = s.mgt.mask ∧
    (s.captureFrame copies f).mgt.node = s.mgt.node ∧ (s.captureFrame copies f).freeCount = s.freeCount ∧
    (s.captureFrame copies f).pending = s.pending := by
  simp only [State.captureFrame]
  (repeat' split) <;> simp

@[simp] theorem State.extractAndCapture_frame (e : FatEntry) (f : Frame) (t : Time) (s : State) :
    (s.extractAndCapture e f t).time = s.time ∧ (s.extractAndCapture e f t).baud = s.baud ∧
    (s.extractAndCapture e f t).mport = s.mport ∧ (s.extractAndCapture e f t).fcl = s.fcl ∧
    (s.extractAndCapture e f t).sig.sxt = s.sig.sxt ∧ (s.extractAndCapture e f t).din = s.din ∧
    (s.extractAndCapture e f t).wen.record = s.wen.record ∧ (s.extractAndCapture e f t).wen.bands = s.wen.bands ∧
    (s.extractAndCapture e f t).lac.materials = s.lac.materials ∧ (s.extractAndCapture e f t).cport.m = s.cport.m ∧
    (s.extractAndCapture e f t).cport.carrying = s.cport.carrying ∧
    (s.extractAndCapture e f t).cport.tx = s.cport.tx ∧ (s.extractAndCapture e f t).mgt.assembly = s.mgt.assembly ∧
    (s.extractAndCapture e f t).mgt.mask = s.mgt.mask ∧ (s.extractAndCapture e f t).mgt.node = s.mgt.node ∧
    (s.extractAndCapture e f t).pending = s.pending := by
  simp only [State.extractAndCapture]
  (repeat' split) <;> simp

@[simp] theorem State.entryActions_frame (i : Fin 48) (f : Frame) (t : Time) (s : State) :
    (s.entryActions i f t).time = s.time ∧ (s.entryActions i f t).baud = s.baud ∧
    (s.entryActions i f t).mport = s.mport ∧ (s.entryActions i f t).fcl.fat = s.fcl.fat ∧
    (s.entryActions i f t).sig.sxt = s.sig.sxt ∧ (s.entryActions i f t).din = s.din ∧
    (s.entryActions i f t).wen.record = s.wen.record ∧ (s.entryActions i f t).wen.bands = s.wen.bands ∧
    (s.entryActions i f t).lac.materials = s.lac.materials ∧ (s.entryActions i f t).cport.m = s.cport.m ∧
    (s.entryActions i f t).cport.carrying = s.cport.carrying ∧ (s.entryActions i f t).cport.tx = s.cport.tx ∧
    (s.entryActions i f t).mgt.assembly = s.mgt.assembly ∧ (s.entryActions i f t).mgt.mask = s.mgt.mask ∧
    (s.entryActions i f t).mgt.node = s.mgt.node ∧ (s.entryActions i f t).pending = s.pending := by
  simp only [State.entryActions]
  simp

@[simp] theorem State.classify_frame (a : Arrival) (s : State) :
    (s.classify a).time = s.time ∧ (s.classify a).baud = s.baud ∧ (s.classify a).mport = s.mport ∧
    (s.classify a).fcl.fat = s.fcl.fat ∧ (s.classify a).sig.sxt = s.sig.sxt ∧ (s.classify a).din = s.din ∧
    (s.classify a).wen.record = s.wen.record ∧ (s.classify a).wen.bands = s.wen.bands ∧
    (s.classify a).lac.materials = s.lac.materials ∧ (s.classify a).cport.m = s.cport.m ∧
    (s.classify a).cport.carrying = s.cport.carrying ∧ (s.classify a).cport.tx = s.cport.tx ∧
    (s.classify a).mgt.assembly = s.mgt.assembly ∧ (s.classify a).mgt.mask = s.mgt.mask ∧
    (s.classify a).mgt.node = s.mgt.node ∧ (s.classify a).pending = s.pending := by
  simp only [State.classify]
  (repeat' split) <;> simp

@[simp] theorem State.intervalExpiry_frame (i : Fin 48) (x : Time) (s : State) :
    (s.intervalExpiry i x).time = s.time ∧ (s.intervalExpiry i x).baud = s.baud ∧
    (s.intervalExpiry i x).mport = s.mport ∧ (s.intervalExpiry i x).fcl.fat = s.fcl.fat ∧
    (s.intervalExpiry i x).sig = s.sig ∧ (s.intervalExpiry i x).din = s.din ∧ (s.intervalExpiry i x).wen = s.wen ∧
    (s.intervalExpiry i x).cyt = s.cyt ∧ (s.intervalExpiry i x).lac = s.lac ∧
    (s.intervalExpiry i x).cport.m = s.cport.m ∧ (s.intervalExpiry i x).cport.carrying = s.cport.carrying ∧
    (s.intervalExpiry i x).cport.tx = s.cport.tx ∧ (s.intervalExpiry i x).cport.budget = s.cport.budget ∧
    (s.intervalExpiry i x).mgt = s.mgt ∧ (s.intervalExpiry i x).freeCount = s.freeCount ∧
    (s.intervalExpiry i x).pending = s.pending := by
  simp only [State.intervalExpiry]
  (repeat' split) <;> simp [Fcl.setHolding]

@[simp] theorem State.restartGauge_frame (t : Time) (s : State) :
    (s.restartGauge t).time = s.time ∧ (s.restartGauge t).baud = s.baud ∧ (s.restartGauge t).mport = s.mport ∧
    (s.restartGauge t).fcl = s.fcl ∧ (s.restartGauge t).sig = s.sig ∧ (s.restartGauge t).din = s.din ∧
    (s.restartGauge t).wen = s.wen ∧ (s.restartGauge t).cyt = s.cyt ∧ (s.restartGauge t).lac = s.lac ∧
    (s.restartGauge t).cport.m = s.cport.m ∧ (s.restartGauge t).cport.carrying = s.cport.carrying ∧
    (s.restartGauge t).cport.tx = s.cport.tx ∧ (s.restartGauge t).cport.budget = s.cport.budget ∧
    (s.restartGauge t).mgt = s.mgt ∧ (s.restartGauge t).freeCount = s.freeCount ∧
    (s.restartGauge t).pending = s.pending := by
  simp only [State.restartGauge]
  (repeat' split) <;> simp

@[simp] theorem State.gaugeExpiry_frame (x : Time) (s : State) :
    (s.gaugeExpiry x).time = s.time ∧ (s.gaugeExpiry x).baud = s.baud ∧ (s.gaugeExpiry x).mport = s.mport ∧
    (s.gaugeExpiry x).fcl = s.fcl ∧ (s.gaugeExpiry x).sig = s.sig ∧ (s.gaugeExpiry x).din = s.din ∧
    (s.gaugeExpiry x).wen = s.wen ∧ (s.gaugeExpiry x).cyt = s.cyt ∧ (s.gaugeExpiry x).lac = s.lac ∧
    (s.gaugeExpiry x).cport.m = s.cport.m ∧ (s.gaugeExpiry x).cport.carrying = s.cport.carrying ∧
    (s.gaugeExpiry x).cport.tx = s.cport.tx ∧ (s.gaugeExpiry x).cport.budget = s.cport.budget ∧
    (s.gaugeExpiry x).mgt = s.mgt ∧ (s.gaugeExpiry x).freeCount = s.freeCount ∧
    (s.gaugeExpiry x).pending = s.pending := by
  simp only [State.gaugeExpiry]
  (repeat' split) <;> simp

@[simp] theorem State.phaseError_frame (qa qb : Bool) (s : State) :
    (s.phaseError qa qb).time = s.time ∧ (s.phaseError qa qb).baud = s.baud ∧ (s.phaseError qa qb).mport = s.mport ∧
    (s.phaseError qa qb).fcl = s.fcl ∧ (s.phaseError qa qb).sig.sxt = s.sig.sxt ∧
    (s.phaseError qa qb).din.lines = s.din.lines ∧ (s.phaseError qa qb).din.power = s.din.power ∧
    (s.phaseError qa qb).wen = s.wen ∧ (s.phaseError qa qb).cyt = s.cyt ∧ (s.phaseError qa qb).lac = s.lac ∧
    (s.phaseError qa qb).cport.m = s.cport.m ∧ (s.phaseError qa qb).cport.carrying = s.cport.carrying ∧
    (s.phaseError qa qb).cport.tx = s.cport.tx ∧ (s.phaseError qa qb).cport.budget = s.cport.budget ∧
    (s.phaseError qa qb).mgt.mode = s.mgt.mode ∧ (s.phaseError qa qb).mgt.deferred = s.mgt.deferred ∧
    (s.phaseError qa qb).mgt.assembly = s.mgt.assembly ∧ (s.phaseError qa qb).mgt.mask = s.mgt.mask ∧
    (s.phaseError qa qb).mgt.node = s.mgt.node ∧ (s.phaseError qa qb).freeCount = s.freeCount ∧
    (s.phaseError qa qb).pending = s.pending := by
  simp only [State.phaseError]
  (repeat' split) <;> simp

@[simp] theorem State.modLine_frame (i : Fin 4) (f : Line → Line) (s : State) :
    (s.modLine i f).time = s.time ∧ (s.modLine i f).baud = s.baud ∧ (s.modLine i f).mport = s.mport ∧
    (s.modLine i f).fcl = s.fcl ∧ (s.modLine i f).sig = s.sig ∧ (s.modLine i f).din.power = s.din.power ∧
    (s.modLine i f).wen = s.wen ∧ (s.modLine i f).cyt = s.cyt ∧ (s.modLine i f).lac = s.lac ∧
    (s.modLine i f).cport = s.cport ∧ (s.modLine i f).mgt = s.mgt ∧ (s.modLine i f).freeCount = s.freeCount ∧
    (s.modLine i f).pending = s.pending := by
  simp only [State.modLine]
  simp

@[simp] theorem State.park_frame (t : Time) (s : State) :
    (s.park t).time = s.time ∧ (s.park t).baud = s.baud ∧ (s.park t).mport = s.mport ∧
    (s.park t).fcl.fat = s.fcl.fat ∧ (s.park t).sig.sxt = s.sig.sxt ∧ (s.park t).din.lines = s.din.lines ∧
    (s.park t).wen.record = s.wen.record ∧ (s.park t).wen.curveE = s.wen.curveE ∧
    (s.park t).wen.curveL = s.wen.curveL ∧ (s.park t).wen.bands = s.wen.bands ∧ (s.park t).lac = s.lac ∧
    (s.park t).cport.m = s.cport.m ∧ (s.park t).cport.carrying = s.cport.carrying ∧
    (s.park t).cport.tx = s.cport.tx ∧ (s.park t).cport.budget = s.cport.budget ∧
    (s.park t).mgt.assembly = s.mgt.assembly ∧ (s.park t).mgt.mask = s.mgt.mask ∧ (s.park t).mgt.node = s.mgt.node ∧
    (s.park t).freeCount = s.freeCount ∧ (s.park t).pending = s.pending := by
  simp [State.park, Fcl.clearHolding, Cport.park, Cport.flush, Cport.setChan]

@[simp] theorem State.wake_frame (t : Time) (s : State) :
    (s.wake t).time = s.time ∧ (s.wake t).baud = s.baud ∧ (s.wake t).mport = s.mport ∧ (s.wake t).fcl = s.fcl ∧
    (s.wake t).sig.sxt = s.sig.sxt ∧ (s.wake t).din.lines = s.din.lines ∧ (s.wake t).wen.record = s.wen.record ∧
    (s.wake t).wen.curveE = s.wen.curveE ∧ (s.wake t).wen.curveL = s.wen.curveL ∧
    (s.wake t).wen.bands = s.wen.bands ∧ (s.wake t).wen.window = s.wen.window ∧
    (s.wake t).wen.calibration = s.wen.calibration ∧ (s.wake t).lac = s.lac ∧ (s.wake t).cport.m = s.cport.m ∧
    (s.wake t).cport.carrying = s.cport.carrying ∧ (s.wake t).cport.tx = s.cport.tx ∧
    (s.wake t).cport.budget = s.cport.budget ∧ (s.wake t).mgt.mode = s.mgt.mode ∧
    (s.wake t).mgt.deferred = s.mgt.deferred ∧ (s.wake t).mgt.assembly = s.mgt.assembly ∧
    (s.wake t).mgt.mask = s.mgt.mask ∧ (s.wake t).mgt.node = s.mgt.node ∧ (s.wake t).freeCount = s.freeCount ∧
    (s.wake t).pending = s.pending := by
  simp only [State.wake]
  simp

@[simp] theorem State.settlePower_frame (t : Time) (s : State) :
    (s.settlePower t).time = s.time ∧ (s.settlePower t).baud = s.baud ∧ (s.settlePower t).mport = s.mport ∧
    (s.settlePower t).fcl.fat = s.fcl.fat ∧ (s.settlePower t).sig.sxt = s.sig.sxt ∧
    (s.settlePower t).din.lines = s.din.lines ∧ (s.settlePower t).wen.record = s.wen.record ∧
    (s.settlePower t).wen.curveE = s.wen.curveE ∧ (s.settlePower t).wen.curveL = s.wen.curveL ∧
    (s.settlePower t).wen.bands = s.wen.bands ∧ (s.settlePower t).lac = s.lac ∧
    (s.settlePower t).cport.m = s.cport.m ∧ (s.settlePower t).cport.carrying = s.cport.carrying ∧
    (s.settlePower t).cport.tx = s.cport.tx ∧ (s.settlePower t).cport.budget = s.cport.budget ∧
    (s.settlePower t).mgt.assembly = s.mgt.assembly ∧ (s.settlePower t).mgt.mask = s.mgt.mask ∧
    (s.settlePower t).mgt.node = s.mgt.node ∧ (s.settlePower t).freeCount = s.freeCount ∧
    (s.settlePower t).pending = s.pending := by
  simp only [State.settlePower]
  (repeat' split) <;> simp

@[simp] theorem State.settleService_frame (s : State) :
    s.settleService.time = s.time ∧ s.settleService.baud = s.baud ∧ s.settleService.mport = s.mport ∧
    s.settleService.fcl = s.fcl ∧ s.settleService.sig = s.sig ∧ s.settleService.din.lines = s.din.lines ∧
    s.settleService.din.power = s.din.power ∧ s.settleService.wen = s.wen ∧ s.settleService.cyt = s.cyt ∧
    s.settleService.lac = s.lac ∧ s.settleService.cport = s.cport ∧ s.settleService.mgt.mode = s.mgt.mode ∧
    s.settleService.mgt.deferred = s.mgt.deferred ∧ s.settleService.mgt.mask = s.mgt.mask ∧
    s.settleService.mgt.node = s.mgt.node ∧ s.settleService.freeCount = s.freeCount ∧
    s.settleService.pending = s.pending := by
  simp only [State.settleService]
  (repeat' split) <;> simp [Mgt.freeMachineLoad]

@[simp] theorem State.lineEvent_frame (f : LineFunction) (t : Time) (s : State) :
    (s.lineEvent f t).time = s.time ∧ (s.lineEvent f t).baud = s.baud ∧ (s.lineEvent f t).mport = s.mport ∧
    (s.lineEvent f t).fcl.fat = s.fcl.fat ∧ (s.lineEvent f t).sig.sxt = s.sig.sxt ∧
    (s.lineEvent f t).din.lines = s.din.lines ∧ (s.lineEvent f t).wen.record = s.wen.record ∧
    (s.lineEvent f t).wen.curveE = s.wen.curveE ∧ (s.lineEvent f t).wen.curveL = s.wen.curveL ∧
    (s.lineEvent f t).wen.bands = s.wen.bands ∧ (s.lineEvent f t).lac.materials = s.lac.materials ∧
    (s.lineEvent f t).cport.m = s.cport.m ∧ (s.lineEvent f t).cport.carrying = s.cport.carrying ∧
    (s.lineEvent f t).cport.tx = s.cport.tx ∧ (s.lineEvent f t).cport.budget = s.cport.budget ∧
    (s.lineEvent f t).mgt.mask = s.mgt.mask ∧ (s.lineEvent f t).mgt.node = s.mgt.node ∧
    (s.lineEvent f t).freeCount = s.freeCount ∧ (s.lineEvent f t).pending = s.pending := by
  simp only [State.lineEvent]
  (repeat' split) <;> simp

@[simp] theorem State.lineEdge_frame (i : Fin 4) (t : Time) (s : State) :
    (s.lineEdge i t).time = s.time ∧ (s.lineEdge i t).baud = s.baud ∧ (s.lineEdge i t).mport = s.mport ∧
    (s.lineEdge i t).fcl.fat = s.fcl.fat ∧ (s.lineEdge i t).sig.sxt = s.sig.sxt ∧
    (s.lineEdge i t).wen.record = s.wen.record ∧ (s.lineEdge i t).wen.curveE = s.wen.curveE ∧
    (s.lineEdge i t).wen.curveL = s.wen.curveL ∧ (s.lineEdge i t).wen.bands = s.wen.bands ∧
    (s.lineEdge i t).lac.materials = s.lac.materials ∧ (s.lineEdge i t).cport.m = s.cport.m ∧
    (s.lineEdge i t).cport.carrying = s.cport.carrying ∧ (s.lineEdge i t).cport.tx = s.cport.tx ∧
    (s.lineEdge i t).cport.budget = s.cport.budget ∧ (s.lineEdge i t).mgt.mask = s.mgt.mask ∧
    (s.lineEdge i t).mgt.node = s.mgt.node ∧ (s.lineEdge i t).freeCount = s.freeCount ∧
    (s.lineEdge i t).pending = s.pending := by
  simp only [State.lineEdge]
  (repeat' split) <;> simp

@[simp] theorem State.loadLines_frame (first : Nat) (xs : List LineSetting) (t : Time) (s : State) :
    (s.loadLines first xs t).time = s.time ∧ (s.loadLines first xs t).baud = s.baud ∧
    (s.loadLines first xs t).mport = s.mport ∧ (s.loadLines first xs t).fcl.fat = s.fcl.fat ∧
    (s.loadLines first xs t).sig.sxt = s.sig.sxt ∧ (s.loadLines first xs t).wen.record = s.wen.record ∧
    (s.loadLines first xs t).wen.curveE = s.wen.curveE ∧ (s.loadLines first xs t).wen.curveL = s.wen.curveL ∧
    (s.loadLines first xs t).wen.bands = s.wen.bands ∧ (s.loadLines first xs t).lac = s.lac ∧
    (s.loadLines first xs t).cport.m = s.cport.m ∧ (s.loadLines first xs t).cport.carrying = s.cport.carrying ∧
    (s.loadLines first xs t).cport.tx = s.cport.tx ∧ (s.loadLines first xs t).cport.budget = s.cport.budget ∧
    (s.loadLines first xs t).mgt.mask = s.mgt.mask ∧ (s.loadLines first xs t).mgt.node = s.mgt.node ∧
    (s.loadLines first xs t).freeCount = s.freeCount ∧ (s.loadLines first xs t).pending = s.pending := by
  simp only [State.loadLines]
  simp

end Sys2Proof.Machine
end

