-- ==== Sys2Proof/Laws/Commands.lean ====
section
/-! SUPPORT. What the management commands share: a request row is its command behind the gate of its port, a response joins
its port's queue, and an alert flag that is latched stays latched through the shared operations. -/

namespace Sys2Proof.Machine

/-! ### Requests -/

/-- A row that is a request is its command behind the gate of its port (R6, R165). -/
theorem exec_of_request {i : Instr} {p : Port} {bytes : List Byte} (h : encodeRequest i = some (p, bytes)) (s : State) :
    exec i s = .next (s.takeRequest p s.time (State.carryOut i)) := by
  cases i <;> simp only [encodeRequest, Option.some.injEq, Prod.mk.injEq, reduceCtorEq] at h
  all_goals obtain ⟨rfl, rfl⟩ := h
  all_goals rfl

theorem State.takeRequest_of_room {p : Port} {s : State} (h : s.hasRoom p = true) (t : Time) (f : State → State) :
    s.takeRequest p t f = f s := by
  simp [State.takeRequest, h]

theorem State.takeRequest_of_full {p : Port} {s : State} (h : s.hasRoom p = false) (t : Time) (f : State → State) :
    s.takeRequest p t f = s.raiseAlert .mgmtOverrun (portCode p) t := by
  simp [State.takeRequest, h]

/-- What a request can leave: its command's effect, or MGMT_OVERRUN alone. -/
theorem State.takeRequest_cases (p : Port) (t : Time) (f : State → State) (s : State) :
    s.hasRoom p = true ∧ s.takeRequest p t f = f s ∨
      s.hasRoom p = false ∧ s.takeRequest p t f = s.raiseAlert .mgmtOverrun (portCode p) t := by
  cases h : s.hasRoom p
  · exact .inr ⟨rfl, State.takeRequest_of_full h t f⟩
  · exact .inl ⟨rfl, State.takeRequest_of_room h t f⟩

/-! ### Responses (R165, R183) -/

theorem State.respond_responses {p : Port} {s : State} (h : s.keepsResponses p = true) (code tag : Byte)
    (status : Status) (results : List Byte) :
    (s.respond p code tag status results).responses p =
      s.responses p ++ [responseFrame s.mgt.node code tag status results] := by
  cases p <;> simp_all [State.respond, State.offerResponse, State.responses, State.keepsResponses, ChannelState.push]

theorem State.respond_machine (code tag : Byte) (status : Status) (results : List Byte) (s : State) :
    s.respond .machine code tag status results =
      s.modMport fun m => { m with queue := m.queue ++ [responseFrame s.mgt.node code tag status results] } := rfl

theorem State.respond_cab_blocked {s : State} (h : s.cport.m.blocked = true) (code tag : Byte) (status : Status)
    (results : List Byte) : s.respond .cab code tag status results = s := by
  simp [State.respond, State.offerResponse, h]

theorem State.respond_cab_open {s : State} (h : s.cport.m.blocked = false) (code tag : Byte) (status : Status)
    (results : List Byte) :
    s.respond .cab code tag status results =
      s.modCport fun p => { p with m := p.m.push (responseFrame s.mgt.node code tag status results) } := by
  simp [State.respond, State.offerResponse, h]

/-! ### Alert flags stay latched until they are cleared (R202) -/

@[simp] theorem Mgt.alerts_latch_self (a : Alert) (s : State) :
    (s.latch a).mgt.alerts.getLsbD a.code = true := by
  cases a <;> simp [State.latch, Alert.bit, Alert.code]

theorem State.latch_keeps {n : Nat} {s : State} (a : Alert) (h : s.mgt.alerts.getLsbD n = true) :
    (s.latch a).mgt.alerts.getLsbD n = true := by
  simp [State.latch, h]

theorem State.offerE_keeps {n : Nat} {s : State} (f : Frame) (h : s.mgt.alerts.getLsbD n = true) :
    (s.offerE f).mgt.alerts.getLsbD n = true := by
  simp only [State.offerE]
  (repeat' split)
  · exact h
  · exact h
  · exact State.latch_keeps _ h

theorem State.raiseSub_keeps {n : Nat} {s : State} (a : Alert) (sub detail : Nat) (t : Time)
    (h : s.mgt.alerts.getLsbD n = true) : (s.raiseSub a sub detail t).mgt.alerts.getLsbD n = true := by
  simp only [State.raiseSub]
  split
  · exact State.offerE_keeps _ (State.latch_keeps _ h)
  · exact State.latch_keeps _ h

theorem State.raiseSub_latches (a : Alert) (sub detail : Nat) (t : Time) (s : State) :
    (s.raiseSub a sub detail t).mgt.alerts.getLsbD a.code = true := by
  simp only [State.raiseSub]
  split
  · exact State.offerE_keeps _ (Mgt.alerts_latch_self a s)
  · exact Mgt.alerts_latch_self a s

theorem State.raiseAlert_keeps {n : Nat} {s : State} (a : Alert) (detail : Nat) (t : Time)
    (h : s.mgt.alerts.getLsbD n = true) : (s.raiseAlert a detail t).mgt.alerts.getLsbD n = true :=
  State.raiseSub_keeps a _ detail t h

theorem State.raiseAlert_latches (a : Alert) (detail : Nat) (t : Time) (s : State) :
    (s.raiseAlert a detail t).mgt.alerts.getLsbD a.code = true :=
  State.raiseSub_latches a _ detail t s

theorem State.raiseUnsteady_keeps {n : Nat} {s : State} (r : WindowResult) (h : s.mgt.alerts.getLsbD n = true) :
    (s.raiseUnsteady r).mgt.alerts.getLsbD n = true := by
  simp only [State.raiseUnsteady]
  split
  · exact State.raiseAlert_keeps _ _ _ h
  · exact h

theorem State.applyTarePass_keeps {n : Nat} {s : State} (r : WindowResult) (h : s.mgt.alerts.getLsbD n = true) :
    (s.applyTarePass r).mgt.alerts.getLsbD n = true := by
  simp only [State.applyTarePass]
  (repeat' split) <;> first | exact h | exact State.raiseAlert_keeps _ _ _ h

theorem State.endWindow_keeps {n : Nat} {s : State} (e : Ending) (t : Time) (h : s.mgt.alerts.getLsbD n = true) :
    (s.endWindow e t).mgt.alerts.getLsbD n = true := by
  simp only [State.endWindow]
  split
  · exact h
  · split
    · exact State.applyTarePass_keeps (s := State.modWen _ _) _ (State.raiseUnsteady_keeps _ h)
    · exact State.raiseUnsteady_keeps _ h

theorem State.changeMode_keeps {n : Nat} {s : State} (m : ModeTarget) (cause : NoticeCause) (t : Time)
    (h : s.mgt.alerts.getLsbD n = true) : (s.changeMode m cause t).mgt.alerts.getLsbD n = true := by
  simp only [State.changeMode, State.noticeMode]
  apply State.offerE_keeps
  (repeat' split) <;> exact h

theorem State.applyDeferred_keeps {n : Nat} {s : State} (t : Time) (h : s.mgt.alerts.getLsbD n = true) :
    (s.applyDeferred t).mgt.alerts.getLsbD n = true := by
  simp only [State.applyDeferred]
  (repeat' split) <;> first | exact h | exact State.changeMode_keeps (s := State.modMgt _ _) _ _ _ h

theorem State.interruptRun_keeps {n : Nat} {s : State} (reason : BreakReason) (t : Time)
    (h : s.mgt.alerts.getLsbD n = true) : (s.interruptRun reason t).mgt.alerts.getLsbD n = true := by
  simp only [State.interruptRun, State.breakRun, State.progress]
  (repeat' split) <;> first | exact h | exact State.offerE_keeps (s := State.setCal _ _) _ h

end Sys2Proof.Machine
end

