-- ==== Sys2Proof/Laws/PerInstr.lean ====
section
/-! SUPPORT. A statement for all commands, made per command: the length of the request that a row stands for. -/

namespace Sys2Proof.Laws

/-- The request that a row stands for has at most 8 data bytes, and fewer than 8 exactly when the row is SHORT_REQUEST
(R183, R211). -/
def RequestBytes.Statement (i : Instr) : Prop :=
  ∀ (p : Port) (bytes : List Byte), i.wellFormed = true → encodeRequest i = some (p, bytes) →
    bytes.length ≤ 8 ∧ (bytes.length < 8 ↔ ∃ q b, i = .shortRequest q b)

/-- A full request has 8 bytes (R183). -/
theorem requestBytes_length (code tag : Byte) (args : List Byte) : (requestBytes code tag args).length = 8 := by
  simp [requestBytes]

/-- A row whose request is a full one. -/
theorem RequestBytes.of_full {i : Instr} {p : Port} {code tag : Byte} {args : List Byte}
    (h : encodeRequest i = some (p, requestBytes code tag args)) (hs : ∀ q b, i ≠ .shortRequest q b) :
    RequestBytes.Statement i := by
  intro q bytes _ he
  rw [h] at he
  obtain ⟨rfl, rfl⟩ := by simpa using he
  refine ⟨by simp [requestBytes_length], ⟨fun hl => by simp [requestBytes_length] at hl, fun ⟨q, b, e⟩ => absurd e (hs q b)⟩⟩

/-- A row that is no request. -/
theorem RequestBytes.of_none {i : Instr} (h : encodeRequest i = none) : RequestBytes.Statement i := by
  intro q bytes _ he
  rw [h] at he
  cases he

theorem RequestBytes.coldReset (pins : ResetPins) : RequestBytes.Statement (.coldReset pins) := RequestBytes.of_none rfl

theorem RequestBytes.timebaseTick : RequestBytes.Statement (.timebaseTick) := RequestBytes.of_none rfl

theorem RequestBytes.machineArrival (arrival : Arrival) : RequestBytes.Statement (.machineArrival arrival) := RequestBytes.of_none rfl

theorem RequestBytes.intervalTimerExpiry (entry : Fin 48) : RequestBytes.Statement (.intervalTimerExpiry entry) := RequestBytes.of_none rfl

theorem RequestBytes.freshnessExpiry (role : Role) : RequestBytes.Statement (.freshnessExpiry role) := RequestBytes.of_none rfl

theorem RequestBytes.lossExpiry (role : Role) : RequestBytes.Statement (.lossExpiry role) := RequestBytes.of_none rfl

theorem RequestBytes.windowTimeout : RequestBytes.Statement (.windowTimeout) := RequestBytes.of_none rfl

theorem RequestBytes.encoderOfferTick : RequestBytes.Statement (.encoderOfferTick) := RequestBytes.of_none rfl

theorem RequestBytes.phaseChange (qa qb : Bool) : RequestBytes.Statement (.phaseChange qa qb) := RequestBytes.of_none rfl

theorem RequestBytes.indexPulse : RequestBytes.Statement (.indexPulse) := RequestBytes.of_none rfl

theorem RequestBytes.lineLevelChange (line : Fin 4) (level : Bool) : RequestBytes.Statement (.lineLevelChange line level) := RequestBytes.of_none rfl

theorem RequestBytes.stabilityExpiry (line : Fin 4) : RequestBytes.Statement (.stabilityExpiry line) := RequestBytes.of_none rfl

theorem RequestBytes.cabArrival (frame : Frame) : RequestBytes.Statement (.cabArrival frame) := RequestBytes.of_none rfl

theorem RequestBytes.arbiterTake : RequestBytes.Statement (.arbiterTake) := RequestBytes.of_none rfl

theorem RequestBytes.machineTxTake : RequestBytes.Statement (.machineTxTake) := RequestBytes.of_none rfl

theorem RequestBytes.attemptSent (port : Port) : RequestBytes.Statement (.attemptSent port) := RequestBytes.of_none rfl

theorem RequestBytes.attemptLost (port : Port) : RequestBytes.Statement (.attemptLost port) := RequestBytes.of_none rfl

theorem RequestBytes.attemptFailed (port : Port) : RequestBytes.Statement (.attemptFailed port) := RequestBytes.of_none rfl

theorem RequestBytes.silenceEnd (port : Port) : RequestBytes.Statement (.silenceEnd port) := RequestBytes.of_none rfl

theorem RequestBytes.gaugeTimerExpiry : RequestBytes.Statement (.gaugeTimerExpiry) := RequestBytes.of_none rfl

theorem RequestBytes.identify (port : Port) (tag item : Byte) : RequestBytes.Statement (.identify port tag item) :=
  RequestBytes.of_full rfl fun _ _ h => Instr.noConfusion h

theorem RequestBytes.queryStatus (port : Port) (tag page item part : Byte) : RequestBytes.Statement (.queryStatus port tag page item part) :=
  RequestBytes.of_full rfl fun _ _ h => Instr.noConfusion h

theorem RequestBytes.readEntry (port : Port) (tag table index chunk : Byte) : RequestBytes.Statement (.readEntry port tag table index chunk) :=
  RequestBytes.of_full rfl fun _ _ h => Instr.noConfusion h

theorem RequestBytes.queryLoad (port : Port) (tag index page part : Byte) : RequestBytes.Statement (.queryLoad port tag index page part) :=
  RequestBytes.of_full rfl fun _ _ h => Instr.noConfusion h

theorem RequestBytes.queryTotals (port : Port) (tag selector counter : Byte) : RequestBytes.Statement (.queryTotals port tag selector counter) :=
  RequestBytes.of_full rfl fun _ _ h => Instr.noConfusion h

theorem RequestBytes.readAlerts (port : Port) (tag : Byte) : RequestBytes.Statement (.readAlerts port tag) :=
  RequestBytes.of_full rfl fun _ _ h => Instr.noConfusion h

theorem RequestBytes.setMode (port : Port) (tag mode target runs : Byte) : RequestBytes.Statement (.setMode port tag mode target runs) :=
  RequestBytes.of_full rfl fun _ _ h => Instr.noConfusion h

theorem RequestBytes.openLoad (port : Port) (tag table first count : Byte) : RequestBytes.Statement (.openLoad port tag table first count) :=
  RequestBytes.of_full rfl fun _ _ h => Instr.noConfusion h

theorem RequestBytes.loadData (port : Port) (tag seq : Byte) (payload : Vector Byte 5) : RequestBytes.Statement (.loadData port tag seq payload) :=
  RequestBytes.of_full rfl fun _ _ h => Instr.noConfusion h

theorem RequestBytes.closeLoad (port : Port) (tag crc : Byte) : RequestBytes.Statement (.closeLoad port tag crc) :=
  RequestBytes.of_full rfl fun _ _ h => Instr.noConfusion h

theorem RequestBytes.abortLoad (port : Port) (tag : Byte) : RequestBytes.Statement (.abortLoad port tag) :=
  RequestBytes.of_full rfl fun _ _ h => Instr.noConfusion h

theorem RequestBytes.loadTimeout : RequestBytes.Statement (.loadTimeout) := RequestBytes.of_none rfl

theorem RequestBytes.tare (port : Port) (tag : Byte) : RequestBytes.Statement (.tare port tag) :=
  RequestBytes.of_full rfl fun _ _ h => Instr.noConfusion h

theorem RequestBytes.cancelLast (port : Port) (tag : Byte) : RequestBytes.Statement (.cancelLast port tag) :=
  RequestBytes.of_full rfl fun _ _ h => Instr.noConfusion h

theorem RequestBytes.nextTruck (port : Port) (tag : Byte) : RequestBytes.Statement (.nextTruck port tag) :=
  RequestBytes.of_full rfl fun _ _ h => Instr.noConfusion h

theorem RequestBytes.shiftClose (port : Port) (tag : Byte) : RequestBytes.Statement (.shiftClose port tag) :=
  RequestBytes.of_full rfl fun _ _ h => Instr.noConfusion h

theorem RequestBytes.setTarget (port : Port) (tag : Byte) (target : BitVec 24) (tolerance : BitVec 16) : RequestBytes.Statement (.setTarget port tag target tolerance) :=
  RequestBytes.of_full rfl fun _ _ h => Instr.noConfusion h

theorem RequestBytes.setMaterial (port : Port) (tag index : Byte) : RequestBytes.Statement (.setMaterial port tag index) :=
  RequestBytes.of_full rfl fun _ _ h => Instr.noConfusion h

theorem RequestBytes.hold (port : Port) (tag channel : Byte) : RequestBytes.Statement (.hold port tag channel) :=
  RequestBytes.of_full rfl fun _ _ h => Instr.noConfusion h

theorem RequestBytes.release (port : Port) (tag channel : Byte) : RequestBytes.Statement (.release port tag channel) :=
  RequestBytes.of_full rfl fun _ _ h => Instr.noConfusion h

theorem RequestBytes.block (port : Port) (tag channel : Byte) : RequestBytes.Statement (.block port tag channel) :=
  RequestBytes.of_full rfl fun _ _ h => Instr.noConfusion h

theorem RequestBytes.unblock (port : Port) (tag channel : Byte) : RequestBytes.Statement (.unblock port tag channel) :=
  RequestBytes.of_full rfl fun _ _ h => Instr.noConfusion h

theorem RequestBytes.toggleSet (port : Port) (tag channel : Byte) : RequestBytes.Statement (.toggleSet port tag channel) :=
  RequestBytes.of_full rfl fun _ _ h => Instr.noConfusion h

theorem RequestBytes.toggleClear (port : Port) (tag channel : Byte) : RequestBytes.Statement (.toggleClear port tag channel) :=
  RequestBytes.of_full rfl fun _ _ h => Instr.noConfusion h

theorem RequestBytes.setCapture (port : Port) (tag : Byte) (budget : BitVec 16) : RequestBytes.Statement (.setCapture port tag budget) :=
  RequestBytes.of_full rfl fun _ _ h => Instr.noConfusion h

theorem RequestBytes.setNotices (port : Port) (tag : Byte) (mask : BitVec 16) : RequestBytes.Statement (.setNotices port tag mask) :=
  RequestBytes.of_full rfl fun _ _ h => Instr.noConfusion h

theorem RequestBytes.clearAlerts (port : Port) (tag : Byte) (mask : BitVec 16) : RequestBytes.Statement (.clearAlerts port tag mask) :=
  RequestBytes.of_full rfl fun _ _ h => Instr.noConfusion h

theorem RequestBytes.setNode (port : Port) (tag node : Byte) : RequestBytes.Statement (.setNode port tag node) :=
  RequestBytes.of_full rfl fun _ _ h => Instr.noConfusion h

theorem RequestBytes.restart (port : Port) (tag : Byte) : RequestBytes.Statement (.restart port tag) :=
  RequestBytes.of_full rfl fun _ _ h => Instr.noConfusion h

theorem RequestBytes.unknownCommand (port : Port) (code tag : Byte) : RequestBytes.Statement (.unknownCommand port code tag) :=
  RequestBytes.of_full rfl fun _ _ h => Instr.noConfusion h

theorem RequestBytes.shortRequest (port : Port) (bytes : List Byte) : RequestBytes.Statement (.shortRequest port bytes) := by
  intro q b hw he
  obtain ⟨rfl, rfl⟩ := by simpa [encodeRequest] using he
  have hl : bytes.length < 8 := by simpa [Instr.wellFormed] using hw
  exact ⟨Nat.le_of_lt hl, ⟨fun _ => ⟨_, _, rfl⟩, fun _ => hl⟩⟩

end Sys2Proof.Laws
end

