-- ==== Sys2Proof/Laws/Words.lean ====
section
/-! SUPPORT. The model's operations in the words of the statements: offers to E, alerts, OVERLOAD and closings as
Safety.lean says them, the bits of a display frame, and the fields that each page and entry holds. -/

namespace Sys2Proof.Machine

/-! ### The frame word -/

theorem leNat_leBytes (k v : Nat) : leNat (leBytes k v) = v % 256 ^ k := by
  induction k generalizing v with
  | zero => simp [leBytes, leNat, Nat.mod_one]
  | succ k ih =>
    simp only [leBytes, leNat, ih, BitVec.toNat_ofNat]
    rw [show 256 ^ (k + 1) = 256 * 256 ^ k by ring, Nat.mod_mul]

@[simp] theorem leBytes_length (k v : Nat) : (leBytes k v).length = k := by
  induction k generalizing v with
  | zero => rfl
  | succ k ih => simp [leBytes, ih]

/-- A display frame is an extended data frame of 8 bytes whose bits read back the packed fields. -/
theorem State.displayFrame_word (s : State) (kind : Nat) (fields : List (Nat × Nat)) :
    (s.displayFrame kind fields).id =
      .extended (Config.displayBase + BitVec.ofNat 29 (kind * 256) + s.mgt.node.setWidth 29) ∧
    (s.displayFrame kind fields).body = .data (frameBytes (s.displayFrame kind fields)) ∧
    (frameBytes (s.displayFrame kind fields)).length = 8 ∧
    ∀ lo w, wordBits (frameBytes (s.displayFrame kind fields)) lo w =
      packFields fields % 2 ^ 64 / 2 ^ lo % 2 ^ w := by
  refine ⟨rfl, rfl, leBytes_length 8 _, fun lo w => ?_⟩
  simp only [wordBits, State.displayFrame, dataFrame, frameBytes, wordBytes, leNat_leBytes]
  norm_num

/-! ### Channel E and the alerts -/

theorem State.offerE_eq (f : Frame) (s : State) : s.offerE f = s.afterOffer f := by
  simp only [State.offerE, State.afterOffer, Config.capE]; rfl

theorem leBytes_ofNat_append (v : Nat) : leBytes 8 v =
    BitVec.ofNat 8 v :: (leBytes 2 (v / 256) ++ leBytes 4 (v / 2 ^ 24) ++ leBytes 1 (v / 2 ^ 56)) := by
  simp only [leBytes, List.cons_append, List.nil_append, Nat.div_div_eq_div_mul, Nat.reducePow, Nat.reduceMul]

theorem leBytes_mod (k v : Nat) : leBytes k (v % 256 ^ k) = leBytes k v := by
  induction k generalizing v with
  | zero => rfl
  | succ k ih =>
    have h : v % 256 ^ (k + 1) / 256 = v / 256 % 256 ^ k := by
      rw [show 256 ^ (k + 1) = 256 * 256 ^ k by ring, Nat.mod_mul_right_div_self]
    have h2 : BitVec.ofNat 8 (v % 256 ^ (k + 1)) = BitVec.ofNat 8 v := by
      apply BitVec.eq_of_toNat_eq
      simp only [BitVec.toNat_ofNat]
      exact Nat.mod_mod_of_dvd _ ⟨256 ^ k, by ring⟩
    simp only [leBytes, h, h2, ih]

theorem State.alertFrame_eq (a : Alert) (sub detail : Nat) (t : Time) (s : State) (hs : sub < 16) :
    s.alertFrame a sub detail t = dataFrame (0x0C7A0400#29 + s.mgt.node.setWidth 29)
      (BitVec.ofNat 8 (a.code + 16 * sub) :: leBytes 2 detail ++ leBytes 4 t.toNat ++ [0]) := by
  have ha : a.code < 16 := by cases a <;> decide
  have ht := t.isLt
  simp only [State.alertFrame, State.displayFrame, dataFrame, wordBytes, packFields]
  rw [leBytes_ofNat_append]
  generalize hw : a.code % 2 ^ 4 + 2 ^ 4 * (sub % 2 ^ 4 + 2 ^ 4 * (detail % 2 ^ 16 +
    2 ^ 16 * (t.toNat % 2 ^ 32 + 2 ^ 32 * 0))) = word
  have e1 : BitVec.ofNat 8 word = BitVec.ofNat 8 (a.code + 16 * sub) := by
    apply BitVec.eq_of_toNat_eq; simp only [BitVec.toNat_ofNat]; omega
  have e2 : word / 256 = detail % 2 ^ 16 + 2 ^ 16 * t.toNat := by omega
  have e3 : word / 2 ^ 24 = t.toNat := by omega
  have e4 : word / 2 ^ 56 = 0 := by omega
  have e5 : leBytes 2 (detail % 2 ^ 16 + 2 ^ 16 * t.toNat) = leBytes 2 detail := by
    rw [← leBytes_mod, ← leBytes_mod 2 detail]; congr 1; omega
  rw [e1, e2, e3, e4, e5]
  rfl

theorem State.raiseSub_eq (s : State) (a : Alert) (sub detail : Nat) (t : Time) (hs : sub < 16) :
    s.raiseSub a sub detail t = s.afterAlert a.code sub detail t := by
  have hb : a.bit = BitVec.ofNat 16 (2 ^ a.code) := by cases a <;> decide
  simp only [State.raiseSub, State.afterAlert, State.offerE_eq, State.alertFrame_eq _ _ _ _ _ hs, State.latch,
    State.modMgt, hb]

theorem State.raiseAlert_eq (a : Alert) (detail : Nat) (t : Time) (s : State) :
    s.raiseAlert a detail t = s.afterAlert a.code 15 detail t := s.raiseSub_eq a 15 detail t (by decide)

/-! ### The loads -/

theorem State.evalOverload_eq (t : Time) (s : State) : s.evalOverload t = s.afterOverload t := by
  simp only [State.evalOverload, State.afterOverload, Load.exceeds, State.raiseAlert_eq]
  by_cases h : s.lac.load.target ≠ 0 ∧ s.lac.load.target + s.lac.load.tolerance < s.lac.load.total
  · simp [h, State.modLac, Alert.code, max16]
  · by_cases h0 : s.lac.load.target = 0
    · simp [h0, State.modLac]
    · have : ¬ s.lac.load.target + s.lac.load.tolerance < s.lac.load.total := fun q => h ⟨h0, q⟩
      simp [this, State.modLac]

theorem coarse_eq (unit top v : Nat) : coarse unit top v = reduced unit top v := by
  simp only [coarse, reduced, Nat.min_comm]

theorem coarse_le (unit top v : Nat) : coarse unit top v ≤ top := Nat.min_le_right _ _

theorem State.loadClosedFrame_spec (l : Load) (by' : ClosedBy) (s : State) :
    LoadClosedFrame s.mgt.node l by' (s.loadClosedFrame l by') := by
  obtain ⟨h1, h2, h3, h4⟩ := s.displayFrame_word 3 [(24, l.number), (20, l.total), (4, l.material.val),
    (5, l.buckets.length), (5, l.unweighed), (2, by'.code), (1, l.overload.toNat)]
  have hm := l.material.isLt
  have hb : by'.code < 3 := by cases by' <;> decide
  have ho := Bool.toNat_lt l.overload
  constructor <;> first
    | exact h1
    | exact h2
    | exact h3
    | (rw [State.loadClosedFrame, h4]; simp only [packFields]; omega)
    | (rw [State.loadClosedFrame, h4]; simp only [packFields]; cases by' <;> simp only [ClosedBy.code] <;> omega)

theorem flagBits3 (a b c : Bool) : flagBits [a, b, c] = a.toNat + 2 * b.toNat + 4 * c.toNat := by
  cases a <;> cases b <;> cases c <;> rfl

theorem State.bucketFrame_spec (l : Load) (b : BucketRecord) (s : State) :
    BucketFrame s.mgt.node l b (s.bucketFrame l b) := by
  obtain ⟨h1, h2, h3, h4⟩ := s.displayFrame_word 2 [(5, b.position), (3, bucketClassCode b.handed.cls b.handed.reason),
    (3, flagBits [b.handed.belowZero, b.handed.overRange, b.handed.reweighed]), (5, l.number),
    (16, b.handed.mass.getD 0xFFFF), (11, b.fill.getD 0x7FF), (6, coarse 1000 63 b.handed.digToDump.toNat),
    (14, coarse 100 9600 l.total)]
  have c1 := coarse_le 1000 63 b.handed.digToDump.toNat
  have c2 := coarse_le 100 9600 l.total
  have f1 := Bool.toNat_lt b.handed.belowZero
  have f2 := Bool.toNat_lt b.handed.overRange
  have f3 := Bool.toNat_lt b.handed.reweighed
  have hc : bucketClassCode b.handed.cls b.handed.reason < 8 := by
    unfold bucketClassCode; split <;> decide
  constructor <;> first
    | exact h1
    | exact h2
    | exact h3
    | (rw [State.bucketFrame, h4]; simp only [packFields, flagBits3, ← coarse_eq]; omega)
    | (show _ = bucketClassCode b.handed.cls b.handed.reason
       rw [State.bucketFrame, h4]; simp only [packFields]; omega)

theorem State.closeLoadNow_eq (by' : ClosedBy) (t : Time) (s : State) :
    s.closeLoadNow by' t = s.afterClosing by' t (s.loadClosedFrame s.lac.load by') := by
  simp only [State.closeLoadNow, State.offerE_eq, State.afterClosing, completedAfter, Lac.nextLoad, Totals.addLoad,
    MaterialTotals.addLoad, satAdd, max32, Config.capCompleted, State.modLac, State.afterOffer,
    State.loadClosedFrame, State.displayFrame]
  split
  · simp
  · split <;> simp

theorem State.liveMass_eq (s : State) : s.liveMass = s.massShown := by
  have hcl : ∀ v : Int, clamp 0 60000 v = max 0 (min 60000 v) := by intro v; unfold clamp; split_ifs <;> omega
  simp only [State.liveMass, State.massShown, Load.newestMass, Window.runningMean]
  cases hw : s.wen.window with
  | none => cases hp : s.cyt.pending with
    | none => rfl
    | some p =>
      cases hm : p.mass <;> simp [hm] <;> rfl
  | some w =>
    by_cases h : w.samples = []
    · have hr : w.runningMean = none := by simp [Window.runningMean, h]
      simp only [h, Option.bind_some, if_true, hr]
      cases hp : s.cyt.pending with
      | none => rfl
      | some p =>
      cases hm : p.mass <;> simp [hm] <;> rfl
    · have hr : w.runningMean = some (rdiv w.sum w.samples.length) := by simp [Window.runningMean, h]
      simp [h, hcl, hr]


/-! ### The pages -/

/-- The fields stand one after another from an offset on. -/
@[simp] def adjoin : Nat → List (Nat × List Byte) → Prop
  | _, [] => True
  | off, (o, b) :: fs => o = off ∧ adjoin (off + b.length) fs

theorem slice_of_adjoin (pre : List Byte) (fs : List (Nat × List Byte)) (h : adjoin pre.length fs) :
    ∀ x ∈ fs, slice (pre ++ (fs.map Prod.snd).flatten) x.1 x.2.length = x.2 := by
  induction fs generalizing pre with
  | nil => intro x hx; cases hx
  | cons y fs ih =>
    obtain ⟨o, b⟩ := y
    obtain ⟨rfl, h⟩ := h
    intro x hx
    rcases List.mem_cons.mp hx with rfl | hx
    · simp [slice]
    · have := ih (pre ++ b) (by simpa using h) x hx
      simpa [List.append_assoc] using this

/-- A record that is its fields one after another holds them. -/
theorem pageHolds_of_adjoin {page : List Byte} {n : Nat} {fs : List (Nat × List Byte)}
    (hp : page = (fs.map Prod.snd).flatten) (hl : page.length = n) (h : adjoin 0 fs) : pageHolds page n fs := by
  subst hp
  exact ⟨hl, slice_of_adjoin [] fs h⟩

@[simp] theorem leInt_length (k : Nat) (v : Int) : (leInt k v).length = k := leBytes_length _ _
@[simp] theorem uField_length (k v : Nat) : (uField k v).length = k := leBytes_length _ _
@[simp] theorem uFieldOpt_length (k : Nat) (v : Option Nat) : (uField? k v).length = k := by
  cases v <;> exact leBytes_length _ _
@[simp] theorem sFieldOpt_length (k : Nat) (v : Option Int) : (sField? k v).length = k := by
  cases v <;> exact leBytes_length _ _
@[simp] theorem tField_length (t : Time) : (tField t).length = 4 := leBytes_length _ _
@[simp] theorem tFieldOpt_length (t : Option Time) : (tField? t).length = 5 := by cases t <;> rfl
@[simp] theorem eField_length (n : Nat) : (eField n).length = 1 := rfl
@[simp] theorem eFieldOpt_length (n : Option Nat) : (eField? n).length = 1 := rfl
@[simp] theorem bField_length (b : Bool) : (bField b).length = 1 := rfl
@[simp] theorem fField_length (l : List Bool) : (fField l).length = 1 := rfl
@[simp] theorem countBytes_length (c : Counts) : (countBytes c).length = 12 := by simp [countBytes]
@[simp] theorem Counts.fields_eq (c : Counts) : c.fields = countBytes c := rfl
@[simp] theorem fField_nil : fField [] = [0] := rfl
@[simp] theorem eFieldOpt_none : eField? none = [0xFF] := rfl
@[simp] theorem uFieldOpt_none : uField? 2 none = [0xFF, 0xFF] := rfl
@[simp] theorem uFieldOpt_none4 : uField? 4 none = [0xFF, 0xFF, 0xFF, 0xFF] := rfl
@[simp] theorem eField_zero : eField 0 = [0] := rfl
theorem leBytes_one (v : Nat) : leBytes 1 v = eField v := rfl
@[simp] theorem eField_one : eField 1 = [1] := rfl
@[simp] theorem eField_two : eField 2 = [2] := rfl

theorem State.generalPage_holds (s : State) : pageHolds s.generalPage 12 s.generalFields := by
  have hk : (!s.din.keyOff) =
      decide (∀ i : Fin 4, s.din.lines[i].function = .key → s.din.lines[i].debounced = true) := by
    rw [Bool.eq_iff_iff]
    simp only [Din.keyOff, Bool.not_eq_true', List.any_eq_false, decide_eq_true_eq,
      Vector.mem_toList_iff, Vector.mem_iff_getElem]
    constructor
    · intro h i hi
      have := h s.din.lines[i] ⟨i, i.2, rfl⟩
      simp at this
      rw [Fin.getElem_fin] at hi ⊢
      exact this hi
    · rintro h x ⟨i, hi, rfl⟩
      have h2 := h ⟨i, hi⟩
      rw [Bool.and_eq_true, decide_eq_true_eq, Bool.not_eq_true']
      rintro ⟨h3, h4⟩
      have h5 := h2 h3
      rw [Fin.getElem_fin] at h5
      rw [h4] at h5
      cases h5
  simp only [State.generalFields, ← hk, State.generalPage]
  cases hd : s.mgt.deferred with
  | none => (refine pageHolds_of_adjoin ?_ ?_ ?_ <;> simp)
  | some d => cases d <;> (refine pageHolds_of_adjoin ?_ ?_ ?_ <;> first | rfl | simp)

theorem State.rolePage_holds (r : Role) (s : State) : pageHolds (s.rolePage r) 16 (s.roleFields r) := by
  have hu : (decide (r = .boom) && s.boomUnused) = decide (r = .boom ∧ encoderSelected s.wen.record = true ∧
      ∃ i : Fin 16, s.sig.sxt[i].enabled = true ∧ s.sig.sxt[i].role = .boom) := by
    rw [Bool.eq_iff_iff]
    simp only [State.boomUnused, Bool.and_eq_true, decide_eq_true_eq, List.any_eq_true,
      Vector.mem_toList_iff, Vector.mem_iff_getElem]
    constructor
    · rintro ⟨h1, h2, x, ⟨i, hi, rfl⟩, h3, h4⟩
      exact ⟨h1, h2, ⟨i, hi⟩, h3, h4⟩
    · rintro ⟨h1, h2, i, h3, h4⟩
      exact ⟨h1, h2, _, ⟨i, i.2, rfl⟩, h3, h4⟩
  simp only [State.roleFields, ← hu, State.rolePage]
  by_cases hr : r = .boom <;> simp only [hr, if_true, if_false, decide_true, decide_false] <;>
    refine pageHolds_of_adjoin ?_ ?_ ?_ <;> simp

theorem State.windowPage_holds (s : State) : pageHolds s.windowPage 52 s.windowFields := by
  simp only [State.windowFields, State.windowPage, State.liveMass_eq]
  cases hw : s.wen.window with
  | none =>
    refine pageHolds_of_adjoin ?_ ?_ ?_ <;> simp
  | some w =>
    have hr : w.runningMean = if w.samples = [] then none else some (rdiv w.sum w.samples.length) := rfl
    simp only [← hr]
    refine pageHolds_of_adjoin ?_ ?_ ?_ <;> simp

theorem State.resultPage_holds (s : State) : pageHolds s.resultPage 38 s.resultFields := by
  simp only [State.resultFields, State.resultPage]
  cases s.wen.lastResult with
  | none => (refine pageHolds_of_adjoin ?_ ?_ ?_ <;> simp)
  | some r =>
    simp only
    refine pageHolds_of_adjoin ?_ ?_ ?_ <;> simp

theorem State.cyclePage_holds (s : State) : pageHolds s.cyclePage 36 s.cycleFields := by
  simp only [State.cycleFields, State.cyclePage]
  cases s.cyt.pending with
  | none => (refine pageHolds_of_adjoin ?_ ?_ ?_ <;> simp)
  | some r =>
    simp only
    refine pageHolds_of_adjoin ?_ ?_ ?_ <;> simp

theorem State.curvesPage_holds (s : State) : pageHolds s.curvesPage 18 s.curvesFields := by
  simp only [State.curvesFields, State.curvesPage, Wen.calibrationItems]
  cases s.wen.calibration with
  | none => (refine pageHolds_of_adjoin ?_ ?_ ?_ <;> simp)
  | some c =>
    simp only
    cases c.run with
    | armed st => (refine pageHolds_of_adjoin ?_ ?_ ?_ <;> simp)
    | rising a b c d => (refine pageHolds_of_adjoin ?_ ?_ ?_ <;> simp)

theorem Line.page_holds (l : Line) : pageHolds l.page 17 l.fields := by
  simp only [Line.fields, Line.page]
  refine pageHolds_of_adjoin ?_ ?_ ?_ <;> simp

theorem State.encoderPage_holds (s : State) : pageHolds s.encoderPage 11 s.encoderFields := by
  simp only [State.encoderFields, State.encoderPage, State.counterBoom, MachineRecord.boomFromCount]
  cases s.wen.record <;> (refine pageHolds_of_adjoin ?_ ?_ ?_ <;> simp)

theorem ChannelState.code_eq (x : ChannelState) :
    eField x.code = if x.blocked then [2] else if x.held then [1] else [0] := by
  simp only [ChannelState.code]; split_ifs <;> rfl

theorem State.cabPage_holds (s : State) : pageHolds s.cabPage 40 s.cabFields := by
  simp only [State.cabFields, State.cabPage, txItems, ChannelState.items, ChannelState.fields,
    ← ChannelState.code_eq, TxState.fields]
  refine pageHolds_of_adjoin ?_ ?_ ?_ <;> simp

theorem State.machinePage_holds (s : State) : pageHolds s.machinePage 9 s.machineFields := by
  simp only [State.machineFields, State.machinePage, txItems, TxState.fields]
  refine pageHolds_of_adjoin ?_ ?_ ?_ <;> simp

theorem State.managementPage_holds (s : State) : pageHolds s.managementPage 13 s.managementFields := by
  simp only [State.managementFields, State.managementPage]
  cases s.mgt.assembly with
  | none => (refine pageHolds_of_adjoin ?_ ?_ ?_ <;> simp)
  | some a =>
    cases hf : a.failed <;> simp only [hf] <;> (refine pageHolds_of_adjoin ?_ ?_ ?_ <;> simp)

theorem Load.header_holds (l : Load) (c : Option (Time × ClosedBy)) : pageHolds (l.header c) 25 (l.headerFields c) := by
  simp only [Load.header, Load.headerFields]
  refine pageHolds_of_adjoin ?_ ?_ ?_ <;> simp

theorem BucketRecord.page_holds (b : BucketRecord) : pageHolds b.page 17 b.fields := by
  simp only [BucketRecord.page, BucketRecord.fields]
  refine pageHolds_of_adjoin ?_ ?_ ?_ <;> simp

theorem encodeFat_holds (e : FatEntry) : pageHolds (encodeFat e) 16 e.fields := by
  simp only [encodeFat, FatEntry.fields]
  cases e.ref1 <;> cases e.ref2 <;> (refine pageHolds_of_adjoin ?_ ?_ ?_ <;> first | rfl | simp)

theorem encodeSxt_holds (e : SxtEntry) : pageHolds (encodeSxt e) 20 e.fields := by
  simp only [encodeSxt, SxtEntry.fields, leBytes_one]
  refine pageHolds_of_adjoin ?_ ?_ ?_ <;> simp

theorem zonesByte_eq (z : Vector Policy 8) :
    zonesByte z = fField ((List.finRange 8).map fun k => decide (z[k] = .drop)) := by
  have : z.toList = (List.finRange 8).map fun k => z[k] := by
    apply List.ext_getElem <;> simp
  simp only [zonesByte, this, List.map_map]; rfl

theorem encodeRecord_length (r : MachineRecord) : (encodeRecord r).length = 64 := by
  unfold encodeRecord
  rw [zonesByte_eq]
  repeat rw [List.length_append]
  repeat rw [leBytes_length]
  repeat rw [leInt_length]
  repeat rw [eField_length]
  rw [fField_length, List.length_replicate]

theorem encodeRecord_flat (r : MachineRecord) : encodeRecord r = (r.fields.map Prod.snd).flatten := by
  unfold encodeRecord MachineRecord.fields
  rw [zonesByte_eq, leBytes_one, leBytes_one r.n, leBytes_one r.trim, leBytes_one r.nMin]
  repeat rw [List.map_cons]
  rw [List.map_nil]
  repeat rw [List.flatten_cons]
  rw [List.flatten_nil, List.append_nil]
  repeat rw [List.append_assoc]

theorem record_adjoin (r : MachineRecord) : adjoin 0 r.fields := by
  unfold MachineRecord.fields
  simp only [adjoin, leBytes_length, leInt_length, eField_length, fField_length]
  decide

theorem encodeRecord_holds (r : MachineRecord) : pageHolds (encodeRecord r) 64 r.fields :=
  pageHolds_of_adjoin (encodeRecord_flat r) (encodeRecord_length r) (record_adjoin r)

theorem encodeLine_holds (l : Line) : pageHolds (encodeLine l) 4 l.entryFields := by
  simp only [encodeLine, Line.entryFields]
  refine pageHolds_of_adjoin ?_ ?_ ?_ <;> simp

end Sys2Proof.Machine
end

