-- ==== Sys2Proof/Tests/Slice0.lean ====
section
/-! SUPPORT. Tests: the checks of WellFormed, the spec's worked examples, and a witness for the hypotheses of each
statement. -/

namespace Sys2Proof.Tests

open Sys2Proof Sys2Proof.Machine

/-! ### WellFormed refuses what cannot be sent -/

theorem test_wellFormed_slow_baud :
    (Instr.coldReset { ResetPins.allLow with baud := 124 }).wellFormed = false := by decide
theorem test_wellFormed_fast_baud :
    (Instr.coldReset { ResetPins.allLow with baud := 1001 }).wellFormed = false := by decide
theorem test_wellFormed_long_machine_frame :
    (Instr.machineArrival ⟨⟨.standard 0, .data (List.replicate 9 0)⟩, 0⟩).wellFormed = false := by decide
theorem test_wellFormed_long_remote : (Instr.cabArrival ⟨.standard 0, .remote 9⟩).wellFormed = false := by decide
theorem test_wellFormed_known_code : (Instr.unknownCommand .cab 0x35 0).wellFormed = false := by decide
theorem test_wellFormed_full_request : (Instr.shortRequest .cab (List.replicate 8 0)).wellFormed = false := by decide
theorem test_wellFormed_limits :
    (Instr.coldReset { ResetPins.allLow with baud := 125 }).wellFormed = true ∧
    (Instr.cabArrival ⟨.standard 0, .remote 8⟩).wellFormed = true ∧
    (Instr.shortRequest .cab (List.replicate 7 0)).wellFormed = true ∧
    (Instr.unknownCommand .cab 0x07 0).wellFormed = true := by decide

/-! ### Request bytes written out from R211 -/

/-- SET_TARGET 32,000 kg, tolerance 500 kg, tag 9: U24 at byte 2 and U16 at byte 5, low byte first. -/
theorem test_decode_setTarget :
    decodeRequest .cab [0x24, 9, 0x00, 0x7D, 0x00, 0xF4, 0x01, 0] = some (.setTarget .cab 9 32000 500) := by decide
/-- CHANNEL: channel in byte 2, action in byte 3; C is code 4 and BLOCK is action 2. -/
theorem test_decode_block :
    decodeRequest .machine [0x30, 1, 4, 2, 0, 0, 0, 0] = some (.block .machine 1 4) := by decide
/-- CHANNEL with action 6 is no row (R187, R210). -/
theorem test_decode_unknown_action : decodeRequest .cab [0x30, 1, 0, 6, 0, 0, 0, 0] = none := by decide
theorem test_decode_loadData :
    decodeRequest .cab [0x12, 3, 7, 1, 2, 3, 4, 5] = some (.loadData .cab 3 7 #v[1, 2, 3, 4, 5]) := by decide
theorem test_decode_clearAlerts :
    decodeRequest .cab [0x33, 3, 0x01, 0x08, 0, 0, 0, 0] = some (.clearAlerts .cab 3 0x0801) := by decide
theorem test_decode_unknown : decodeRequest .cab [0x07, 2, 0, 0, 0, 0, 0, 0] = some (.unknownCommand .cab 7 2) := by
  decide
theorem test_decode_short : decodeRequest .cab [0x20, 2] = some (.shortRequest .cab [0x20, 2]) := by decide
theorem test_table_gives_no_bits : decodeTableWord 8 0 = none := by decide

/-! ### Arithmetic of the worked examples -/

/-- 00_scope 6.3: ties go away from zero. -/
theorem test_round_ties : rdiv 300 8 = 38 ∧ rdiv (-31) 2 = -16 ∧ rdiv 31 2 = 16 ∧ rdiv 7 (-2) = -4 := by decide
/-- R215, shifted by hand. -/
theorem test_crc8_one_byte : crc8 [0x01] = 0x07 ∧ crc8 [0x80] = 0x89 := by decide
/-- R30: BIG at start bit 7 and length 16 puts the high byte in byte 0; start bit 3 and length 8 takes two nibbles. -/
theorem test_big_field :
    fieldNat .big 7 16 [0xFC, 0x18, 0, 0, 0, 0, 0, 0] = 0xFC18 ∧ fieldNat .big 3 8 [0x0A, 0xB0, 0, 0] = 0xAB := by
  decide
/-- Example 2.8: the two raw counts of one frame. -/
theorem test_raw_counts :
    rawCount true 16 (fieldNat .big 7 16 [0xFC, 0x18, 0x7A, 0x1C]) = -1000 ∧
    rawCount false 16 (fieldNat .little 16 16 [0xFC, 0x18, 0x7A, 0x1C]) = 7290 := by decide
/-- R30: the same fields in a frame of 3 data bytes: entry 0 is present, entry 1 is short. -/
theorem test_short_field : fieldPresent .big 7 16 3 = true ∧ fieldPresent .little 16 16 3 = false := by decide
/-- R31: a SIGNED field of length 1, and the widest field. -/
theorem test_raw_widths : rawCount true 1 1 = -1 ∧ rawCount false 32 4294967295 = 4294967295 := by decide

/-- The Machine Record of 3.7, with the remaining fields as 4.12 and 4.13 use them or in their ranges. -/
def record : MachineRecord :=
  { aHead := 31416, aRod := 13745, nCyl := 2, mRef := 10000, theta0 := -2000, dTheta := 500, n := 12,
    calSpeed := 1500, thetaLo := 0, thetaHi := 2000, nMin := 4, trim := 250, spreadLimit := 0, windowTimeout := 8000,
    omegaMin := 200, thetaDig := -500, fDig := 80000, h := 150, thetaDump := -2500, volume := 5400,
    gaugePeriod := 100, boomSource := .encoder, encNum := 9, encDen := 4, indexAngle := 4200,
    zones := Vector.replicate 8 .forward, standard := .forward }

/-- The EMPTY curve of 3.7. -/
def curveE : List Int := [66000, 65300, 64500, 63600, 62500, 61200, 60400, 59800, 59300, 58900, 58600, 58400]
/-- The REFERENCE curve of 3.7. -/
def curveL : List Int :=
  [126800, 125300, 123600, 121900, 120400, 118900, 117700, 116600, 115700, 114900, 114300, 113800]
/-- The speed bands of 4.4. -/
def bands : Vector Band 8 :=
  #v[⟨600, 0⟩, ⟨1200, -15⟩, ⟨2000, -35⟩, ⟨0, 0⟩, ⟨0, 0⟩, ⟨0, 0⟩, ⟨0, 0⟩, ⟨0, 0⟩]

theorem test_record_ok : record.ok = true := by decide
/-- Example 3.7, and the second force of 3.8. -/
theorem test_force : record.force 18500 1200 = 112940 ∧ record.force 0 30000 = -82470 := by decide
/-- Example 3.7. -/
theorem test_lookup : record.lookup curveE 670 = 60928 ∧ record.lookup curveL 670 = 118492 := by decide
/-- Example 3.8: the top of the grid. -/
theorem test_lookup_top : record.lookup curveE 3500 = 58400 ∧ record.lookup curveL 3500 = 113800 := by decide
/-- Examples 3.7 and 3.8. -/
theorem test_mass : record.mass 112940 60928 118492 = 9036 ∧ record.mass (-82470) 60928 118492 = -24911 := by decide
/-- Example of 4.4: entry 1 covers 1,050 cd/s, entry 2 covers 2,000, and nothing covers 2,001. -/
theorem test_bands :
    (bandFor bands 1050).map (Band.correct · 9036) = some 8900 ∧ bandFor bands 2000 = some ⟨2000, -35⟩ ∧
    bandFor bands 2001 = none := by decide
/-- Example 4.13, windows A and B. -/
theorem test_trim : trimmedMean [9100, 8800, 8950, 9000] 250 = 8975 ∧ trimmedMean [-40, -15, -16, 10] 250 = -16 := by
  decide
/-- Example 4.14: mean and spread of the second pass. -/
theorem test_tare_pass_mean :
    trimmedMean [40, 25, 55, 30, 45, 35, 50, 20] 100 = 38 ∧ trimmedSpread [40, 25, 55, 30, 45, 35, 50, 20] 100 = 35 := by
  decide
/-- Example 2.10: the boom speed by the time since the previous value. -/
theorem test_boom_speed :
    omegaAfter none (some (1200, 3000)) 1221 3020 = some 1050 ∧
    omegaAfter (some 1050) (some (1221, 3020)) 1224 3020 = some 1050 ∧
    omegaAfter (some 1050) (some (1224, 3020)) 1244 3050 = some 667 ∧
    omegaAfter (some 667) (some (1244, 3050)) 1400 3280 = none ∧
    omegaAfter none (some (1400, 3280)) 1425 3300 = some 1250 := by decide
/-- R1: a difference across the wrap. -/
theorem test_time_wraps : Time.since 5 4294967290 = 11 ∧ Time.plus 4294967290 11 = 5 := by decide
/-- Example 11.9: the BUCKET word's fields from bit 0. -/
theorem test_bucket_word :
    wordBytes [(5, 2), (3, 0), (3, 4), (5, 37), (16, 8790), (11, 904), (6, 10), (14, 177)] =
      [0x02, 0x2C, 0x56, 0x22, 0x88, 0x53, 0x62, 0x01] := by decide

/-! ### The state the witnesses and the command tests start from -/

/-- A signal slot that holds a value accepted at time 0. -/
def heardSlot (src : Source) (v : Int) (fresh loss : Option Time) : Slot :=
  { Slot.cold with source := src, state := .valid, value := some v, stamp := some 0, fresh := fresh, loss := loss }

/-- A bucket record of a weighed bucket. -/
def bucket (mass position : Nat) : BucketRecord :=
  { handed := { mass := some mass, cls := .weighed, reason := none, belowZero := false, overRange := false,
                reweighed := false, digToDump := 0, dumpTime := 0, n := 10 },
    fill := none, position := position }

/-- An OPEN window with four stored samples, whose timeout is reached at 8,000 ms. -/
def openWindow : Window :=
  { openTime := 0, timeout := 8000, highest := 500, samples := [(9100, 0), (8800, 1), (8950, 2), (9000, 3)],
    sum := 35850, counts := Counts.zero, overspeed := false }

/-- A part at work: RUN, RUNNING, HEAD from SXT entry 0 and BOOM from a homed encoder, a window OPEN in a lift, one
bucket in the load, a response carried on M. -/
def working : State :=
  let r := State.reset
  { r with
    mgt := { r.mgt with mode := .run }
    sig := { r.sig with sxt := r.sig.sxt.set 0 { SxtEntry.cold with enabled := true },
                        head := heardSlot (.sxt 0) 18500 (some 10) (some 40),
                        boom := heardSlot .encoder 820 none none }
    din := { r.din with homing := .homed }
    wen := { r.wen with record := some record, curveE := some curveE, curveL := some curveL, bands := bands,
                        window := some openWindow }
    cyt := { r.cyt with state := .lift, start := some 0 }
    lac := { r.lac with materials := r.lac.materials.set 0 1800,
                        load := r.lac.load.withBuckets [bucket 8878 1] }
    cport := { r.cport with m := ⟨[responseFrame 0x40 0x20 1 .ok []], false, false⟩, carrying := some .m,
                            gauge := some 100 }
    pending := [.timebaseTick] }

/-- The same part PARKED: no window, no cycle, slots AWAITING, no gauge timer. -/
def parked : State :=
  { working with
    sig := { working.sig with head := { Slot.cold with source := .sxt 0, state := .awaiting },
                              boom := { Slot.cold with source := .encoder, state := .awaiting } }
    din := { working.din with power := .parked }
    wen := { working.wen with window := none }
    cyt := Cyt.cold
    cport := { working.cport with gauge := none } }

/-- The state a command leads to. -/
def after (i : Instr) (s : State) : State :=
  match exec i s with
  | .next t => t
  | .fault f => nomatch f
  | .refused _ => s

/-- The status byte of the newest response on M. -/
def newestStatus (s : State) : Option Byte := (s.cport.m.queue.getLast?).bind fun f => (frameBytes f)[2]?

/-! ### Witnesses of the invariants: the part at work and the parked part meet them, and a step of each exists -/

theorem working_portsSound : working.PortsSound := by
  refine ⟨⟨fun ch => ?_, ⟨by decide, by decide, by decide⟩, by decide, by decide, by decide⟩,
    ⟨by decide, by decide, ⟨by decide, by decide, by decide⟩⟩⟩
  cases ch <;> exact ⟨by decide, by decide, by decide⟩

theorem working_modesSound : working.ModesSound where
  window := by decide
  deferred := by decide
  deferredRuns := fun _ _ h => nomatch h
  calibration := by decide
  cycle := by decide
  carried := by decide
  tareArmed := by decide

theorem working_readySound : working.ReadySound where
  record := by decide
  head := by decide
  boom := by decide
  curves := by decide
  bands := by decide
  material := by decide
  nextMaterial := fun _ h => nomatch h

theorem working_slotsSound : working.SlotsSound := by
  intro r
  cases r <;> refine ⟨by decide, by decide, by decide, by decide, by decide, fun v h => ?_, by decide, by decide,
    by decide, by decide⟩
  · obtain rfl : 18500 = v := Option.some.inj h
    decide
  · cases h
  · obtain rfl : 820 = v := Option.some.inj h
    decide
  · cases h
  · cases h

theorem working_rolesUnique : working.RolesUnique := by
  intro i j
  revert i j
  decide

theorem working_weighingSound : working.WeighingSound where
  wen := {
    record := fun r h => by
      obtain rfl : record = r := Option.some.inj h
      exact test_record_ok
    tare := by decide
    curveE := fun e h => by
      obtain rfl : curveE = e := Option.some.inj h
      exact ⟨⟨record, rfl, rfl⟩, by unfold inCurveRange; decide⟩
    curveL := fun l h => by
      obtain rfl : curveL = l := Option.some.inj h
      exact ⟨⟨record, rfl, rfl⟩, by unfold inCurveRange; decide⟩
    window := fun x h => by
      obtain rfl : openWindow = x := Option.some.inj h
      exact ⟨⟨by decide, by decide, by decide⟩, rfl⟩
    calibration := fun _ h => nomatch h }
  curveLoad := fun _ h => nomatch h

/-- A calibration of two runs, the first done, with this run in progress and one point captured in it. -/
def calibration (run : RunState) : Calibration :=
  { target := .empty, runs := 2, done := 1, sums := (66000 + 65000 : Int) :: curveE.tail, run := run, broken := 0 }

/-- The part in CALIBRATE: the window gone, the calibration ACTIVE, a boom speed of `om`. -/
def calibrating (run : RunState) (om : Option Int) : State :=
  { working with
    mgt := { working.mgt with mode := .calibrate }
    sig := { working.sig with omega := om }
    wen := { working.wen with window := none, calibration := some (calibration run) }
    cyt := Cyt.cold }

theorem calibrating_weighingSound : (calibrating (.rising (-1900) 65000 (-1900) [65000]) none).WeighingSound where
  wen := {
    record := working_weighingSound.wen.record
    tare := by decide
    curveE := working_weighingSound.wen.curveE
    curveL := working_weighingSound.wen.curveL
    window := fun _ h => nomatch h
    calibration := fun c h => by
      obtain rfl : calibration (.rising (-1900) 65000 (-1900) [65000]) = c := Option.some.inj h
      refine ⟨record, rfl, by decide, by decide, by decide, by decide, by unfold inCurveRange; decide, fun i => ?_, by decide⟩
      match i with
      | 0 | 1 | 2 | 3 | 4 | 5 | 6 | 7 | 8 | 9 | 10 | 11 => decide
      | n + 12 => simp [calibration, curveE, RunState.values] }
  curveLoad := fun _ h => nomatch h

theorem working_loadsSound : working.LoadsSound where
  lac := {
    load := {
      records := by decide
      positions := by decide
      total := by decide
      unweighed := by decide
      incomplete := by decide
      overload := by decide
      alerted := by decide
      masses := by decide
      fills := by decide
      number := by decide }
    target := by decide
    tolerance := by decide
    count := by decide
    summaries := fun _ h => nomatch h
    ordered := List.Pairwise.nil
    densities := by decide }
  pending := fun _ h => nomatch h

theorem working_mgt_Sound : working.mgt.Sound := ⟨(fun _ h => nomatch h), by decide⟩

theorem parked_parkedQuiet : parked.ParkedQuiet where
  window := by decide
  gauge := by decide
  held := by decide
  drained := fun _ ch h => by rcases h with rfl | rfl <;> decide
  run := fun _ _ h => nomatch h

/-- A frame to every node's request identifier is none; this one is a pressure frame. -/
def pressure : Frame := dataFrame 0x18FF0121 [0xFC, 0x18, 0x7A, 0x1C, 0, 0, 0, 0]

/-- A FAT entry that forwards pressure frames at most every 100 ms. -/
def pressureEntry : FatEntry :=
  { FatEntry.cold with enabled := true, ident := 0x18FF0121, mask := 0x1FFFFFFF, forward := true, interval := 100 }

/-- FAT entry 47 holds a pressure frame behind its timer, which is reached. -/
def holding : State :=
  { working with fcl := { working.fcl with fat := working.fcl.fat.set 47 pressureEntry,
                                           held := working.fcl.held.set 47 (some pressure),
                                           timers := working.fcl.timers.set 47 (some 0) } }

theorem holding_holdingSound : holding.HoldingSound := by
  intro i
  revert i
  decide

/-! The hypotheses of each invariant's statement, together -/

theorem witness_PortsStaySound : working.PortsSound ∧ ∃ t, step working = .next t := ⟨working_portsSound, _, rfl⟩
theorem witness_ModesStaySound : working.ModesSound ∧ ∃ t, step working = .next t := ⟨working_modesSound, _, rfl⟩
theorem witness_ReadinessHoldsThroughRun : working.ReadySound ∧ ∃ t, step working = .next t := ⟨working_readySound, _, rfl⟩
theorem witness_SlotsStaySound : working.SlotsSound ∧ ∃ t, step working = .next t := ⟨working_slotsSound, _, rfl⟩
theorem witness_WeighingStaysSound : working.ModesSound ∧ working.WeighingSound ∧ ∃ t, step working = .next t :=
  ⟨working_modesSound, working_weighingSound, _, rfl⟩
theorem witness_LoadsStaySound : working.LoadsSound ∧ ∃ t, step working = .next t := ⟨working_loadsSound, _, rfl⟩
theorem witness_ParkedStaysQuiet : parked.ParkedQuiet ∧ ∃ t, step parked = .next t := ⟨parked_parkedQuiet, _, rfl⟩
theorem witness_AssemblyRolesAndHoldingStaySound :
    holding.mgt.Sound ∧ holding.RolesUnique ∧ holding.HoldingSound ∧ ∃ t, step holding = .next t :=
  ⟨working_mgt_Sound, working_rolesUnique, holding_holdingSound, _, rfl⟩

/-! ### Witnesses of the other hypotheses, clause by clause -/

theorem witness_StepRunsFrontCommand :
    working.pending = .timebaseTick :: [] ∧ State.reset.pending = [] := by decide
theorem witness_EveryCommandCompletes : (∀ pins, Instr.arbiterTake ≠ .coldReset pins) ∧ Instr.arbiterTake ≠ .timebaseTick := by
  exact ⟨fun _ h => Instr.noConfusion h, fun h => Instr.noConfusion h⟩
theorem witness_TickAdvancesTheTimebase :
    4294967295 < 4294967296 ∧ Time.since (Time.plus 1 4294967295) 1 = 4294967295 := by decide
theorem witness_RestartKeepsLoadsAndTables :
    working.hasRoom .cab = true ∧ working.hasRoom .machine = true ∧ working.wen.window = some openWindow ∧
    parked.hasRoom .cab = true ∧ parked.wen.window = none := by decide
theorem witness_TablesAndNodeChangeByCommand :
    exec .timebaseTick working = .next (after .timebaseTick working) ∧ configures .timebaseTick = false ∧
    carriesRequest working .timebaseTick = false ∧ configures (.machineArrival ⟨pressure, 0⟩) = false ∧
    carriesRequest working (.machineArrival ⟨pressure, 0⟩) = false ∧ working.mgt.mode ≠ .calibrate :=
  ⟨rfl, rfl, rfl, rfl, rfl, by decide⟩
theorem witness_BudgetNeverIncreases :
    ∃ s : State, exec .timebaseTick s = .next (after .timebaseTick s) ∧ setsBudget .timebaseTick = false ∧
      carriesRequest s .timebaseTick = false ∧ s.cport.budget = 65535 :=
  ⟨{ working with cport := { working.cport with budget := 65535 } }, rfl, rfl, rfl, rfl⟩
theorem witness_RequestBytesDecode :
    (Instr.setTarget .cab 9 200000 20000).wellFormed = true ∧
    encodeRequest (.setTarget .cab 9 200000 20000) = some (.cab, [0x24, 9, 0x40, 0x0D, 0x03, 0x20, 0x4E, 0]) ∧
    (Instr.shortRequest .cab (List.replicate 7 1)).wellFormed = true ∧
    encodeRequest (.shortRequest .cab (List.replicate 7 1)) = some (.cab, List.replicate 7 1) := by decide

/-- SERVICE is active. -/
def serviced : State := { working with din := { working.din with service := true } }

theorem witness_RequestFrameActsAsItsRow :
    (Instr.tare .cab 1).wellFormed = true ∧ encodeRequest (.tare .cab 1) = some (.cab, [0x20, 1, 0, 0, 0, 0, 0, 0]) ∧
    (Instr.tare .machine 1).wellFormed = true ∧
    encodeRequest (.tare .machine 1) = some (.machine, [0x20, 1, 0, 0, 0, 0, 0, 0]) ∧ serviced.din.service = true ∧
    6 ≤ (6#8).toNat ∧ serviced.hasRoom .cab = true ∧ serviced.hasRoom .machine = true := by decide
theorem witness_RequestFrameActsAsItsRow_other (bytes : List Byte) :
    pressure ≠ dataFrame (0x0C7E0000#29 + working.mgt.node.setWidth 29) bytes :=
  fun h => absurd (show Frame.id pressure = .extended (0x0C7E0000#29 + working.mgt.node.setWidth 29) from congrArg Frame.id h)
    (by decide)

/-- Both response queues are full, with this notice mask, and `n` frames on channel E. -/
def full (mask : BitVec 16) (n : Nat) : State :=
  { working with cport := { working.cport with m := ⟨List.replicate 8 pressure, false, false⟩,
                                               e := ⟨List.replicate n pressure, false, false⟩ },
                 mport := { working.mport with queue := List.replicate 4 pressure },
                 mgt := { working.mgt with mask := mask }
                 din := { working.din with service := true } }

theorem witness_FullResponseQueueDiscardsRequest :
    (full 0xFFFF 15).hasRoom .cab = false ∧ (full 0xFFFF 15).hasRoom .machine = false ∧
    (full 0xFFFF 15).din.service = true ∧ (full 0xFFFF 15).mgt.mask.getLsbD 10 = true ∧
    (full 0xFFFF 15).cport.e.blocked = false ∧ (full 0xFFFF 15).cport.e.queue.length < 16 ∧
    ¬ (full 0xFFFF 16).cport.e.queue.length < 16 ∧ (full 0xFBFF 0).mgt.mask.getLsbD 10 = false ∧
    encodeRequest (.tare .cab 1) = some (.cab, [0x20, 1, 0, 0, 0, 0, 0, 0]) := by decide
theorem witness_RequestsAreAnswered :
    working.hasRoom .cab = true ∧ working.hasRoom .machine = true ∧
    ({ full 0 0 with cport := { (full 0 0).cport with m := ⟨List.replicate 7 pressure, false, false⟩ } } : State).hasRoom .cab =
      true ∧
    ({ full 0 0 with mport := { (full 0 0).mport with queue := List.replicate 3 pressure } } : State).hasRoom .machine = true := by
  decide

/-- Channel P holds `n` frames. -/
def busyP (n : Nat) : State :=
  { working with cport := { working.cport with p := ⟨List.replicate n pressure, false, false⟩ } }

theorem witness_FrameFollowsItsEntryOrPolicy :
    parked.din.service = false ∧ parked.din.power = .parked ∧ (busyP 31).din.service = false ∧
    (busyP 31).din.power = .running ∧ (busyP 31).cport.p.blocked = false ∧ (busyP 31).cport.p.queue.length < 32 ∧
    ¬ (busyP 32).cport.p.queue.length < 32 ∧ (busyP 32).cport.carrying ≠ some .p ∧
    (busyP 31).fcl.matchEntry 0x03FFFFFF = none ∧ (busyP 31).fcl.matchEntry 0x04000000 = none ∧
    (0 : Fin 8).val = (0x03FFFFFF#29).toNat / 67108864 ∧ (1 : Fin 8).val = (0x04000000#29).toNat / 67108864 ∧
    (7 : Fin 8).val = (0x1FFFFFFF#29).toNat / 67108864 := by decide

theorem witness_ForwardingFollowsTheTimer :
    holding.fcl.matchEntry 0x18FF0121 = some 47 ∧ holding.fcl.fat[(47 : Fin 48)] = pressureEntry ∧
    pressureEntry.forward = true ∧ pressureEntry.extract = false ∧ pressureEntry.capture = false ∧
    pressureEntry.interval ≠ 0 ∧ holding.fcl.timers[(47 : Fin 48)] = some 0 ∧ holding.din.service = false ∧
    holding.din.power = .running ∧ holding.cport.p.blocked = false ∧ holding.cport.p.queue.length < 32 := by decide
theorem witness_ForwardingFollowsTheTimer_idle :
    ∃ s : State, s.fcl.matchEntry 0x18FF0121 = some 47 ∧ s.fcl.timers[(47 : Fin 48)] = none ∧
      s.fcl.fat[(47 : Fin 48)] = pressureEntry ∧ s.din.power = .running :=
  ⟨{ working with fcl := { working.fcl with fat := working.fcl.fat.set 47 pressureEntry } }, by decide⟩
theorem witness_ForwardingFollowsTheTimer_unlimited :
    ∃ s : State, s.fcl.matchEntry 0x18FF0121 = some 47 ∧ (s.fcl.fat[(47 : Fin 48)]).interval = 0 ∧
      s.fcl.fat[(47 : Fin 48)] = { pressureEntry with interval := 0 } ∧ s.din.power = .running :=
  ⟨{ working with fcl := { working.fcl with fat := working.fcl.fat.set 47 { pressureEntry with interval := 0 } } },
    by decide⟩
theorem witness_ForwardingFollowsTheTimer_expiry :
    holding.fcl.timers[(47 : Fin 48)] = some 0 ∧ holding.reached 0 = true ∧
    holding.fcl.held[(47 : Fin 48)] = some pressure ∧
    ({ holding with fcl := { holding.fcl with held := Vector.replicate 48 none } } : State).fcl.held[(47 : Fin 48)] =
      none := by decide

/-- An SXT entry for HEAD: 16 bits from frame bit 16 on, plausible up to `top`. -/
def headEntry (top : Int) : SxtEntry := { SxtEntry.cold with enabled := true, start := 16, length := 16, plausMax := top }

/-- FAT entry 47 is `e`; SXT entry 0 reads HEAD and entry 1 is BOOM's, inert while the record selects the encoder. -/
def hearing (e : FatEntry) (top : Int) : State :=
  { working with
    fcl := { working.fcl with fat := working.fcl.fat.set 47 e }
    sig := { working.sig with sxt := (working.sig.sxt.set 0 (headEntry top)).set 1 { headEntry top with role := .boom } } }

/-- An entry that extracts for SXT entries 0 and 1. -/
def extractEntry : FatEntry := { pressureEntry with extract := true, ref1 := some 0, ref2 := some 1 }

theorem witness_ArrivalIsExtracted :
    (hearing extractEntry 7290).din.power = .running ∧ (hearing extractEntry 7290).din.service = false ∧
    0x18FF0121#29 ≠ 0x0C7E0000#29 + (hearing extractEntry 7290).mgt.node.setWidth 29 ∧
    (hearing extractEntry 7290).fcl.matchEntry 0x18FF0121 = some 47 ∧
    (hearing extractEntry 7290).fcl.fat[(47 : Fin 48)] = extractEntry ∧ extractEntry.capture = false ∧
    (hearing extractEntry 7290).cport.budget = 0 ∧ (hearing extractEntry 7290).sig.sxt[(0 : Fin 16)] = headEntry 7290 ∧
    (headEntry 7290).enabled = true ∧ (headEntry 7290).role ≠ .boom ∧
    ((hearing extractEntry 7290).sig.sxt[(1 : Fin 16)]).role = .boom ∧
    (hearing extractEntry 7290).wen.record = some record ∧ record.boomSource = .encoder ∧
    ((hearing extractEntry 7290).sig.sxt[(2 : Fin 16)]).enabled = false ∧ parked.din.power = .parked := by decide
theorem witness_ArrivalIsExtracted_value :
    fieldPresent .little 16 16 4 = true ∧ fieldPresent .little 16 16 3 = false ∧
    rdiv (rawCount false 16 (fieldNat .little 16 16 (frameBytes pressure)) * 1) 1 + 0 = 7290 ∧
    (7290 : Int) ≤ (headEntry 7290).plausMax ∧ (headEntry 7289).plausMax < 7290 := by decide

/-- FAT entry 47 captures, and extracts as well when `both`; the budget is `budget` and channel C holds `n`. -/
def capturing (both : Bool) (budget n : Nat) : State :=
  { hearing { (if both then extractEntry else pressureEntry) with capture := true } 7290 with
    cport := { working.cport with budget := budget, c := ⟨List.replicate n pressure, false, false⟩ } }

theorem witness_CopiesFillChannelC :
    (capturing false 1 15).fcl.matchEntry 0x18FF0121 = some 47 ∧ (capturing false 1 15).din.power = .running ∧
    (capturing false 1 15).din.service = false ∧ ((capturing false 1 15).fcl.fat[(47 : Fin 48)]).capture = true ∧
    ((capturing false 1 15).fcl.fat[(47 : Fin 48)]).extract = false ∧
    ((capturing true 2 15).fcl.fat[(47 : Fin 48)]).extract = true ∧ (capturing true 2 15).cport.budget ≠ 1 ∧
    (capturing true 1 15).cport.budget = 1 ∧ (capturing true 65535 15).cport.budget = 65535 ∧
    (capturing true 2 15).cport.c.blocked = false ∧ (capturing true 2 15).cport.c.queue.length < 16 ∧
    16 ≤ (capturing true 2 16).cport.c.queue.length := by decide
theorem witness_CopiesFillChannelC_marks :
    Alert.signalLost ≠ .eventLost ∧ (full 0xFFFF 15).mgt.mask.getLsbD Alert.signalLost.code = true ∧
    (full 0 15).mgt.mask.getLsbD Alert.signalLost.code = false ∧
    (full 0xFFFF 15).cport.e.queue.length < 16 ∧ 16 ≤ (full 0xFFFF 16).cport.e.queue.length ∧
    (full 0xFFFF 15).cport.e.blocked = false ∧
    ∃ s : State, s.cport.e.blocked = true ∧ s.cport.c.blocked = true :=
  ⟨by decide, by decide, by decide, by decide, by decide, by decide,
    { working with cport := { working.cport with e := ⟨[], false, true⟩, c := ⟨[], false, true⟩ } }, rfl, rfl⟩

theorem witness_FieldIsABitSlice :
    fieldFits .big 7 32 = true ∧ fieldFits .big 56 1 = true ∧ fieldFits .big 56 2 = false ∧
    fieldFits .big 63 8 = true ∧ fieldFits .little 32 32 = true ∧ fieldFits .little 33 32 = false ∧
    (frameBytes pressure).length = 8 := by decide
theorem witness_RawCountIsTwosComplement : 1 ≤ 1 ∧ 1 < 2 ^ 1 ∧ 4294967295 < 2 ^ 32 := by decide

/-- The timebase stands at `t`. -/
def atTime (t : Time) : State := { working with time := t }

theorem witness_ExpiriesAgeTheSlot :
    ((atTime 10).sig.slot .head).fresh = some 10 ∧ (atTime 10).reached 10 = true ∧ (atTime 9).reached 10 = false ∧
    ((atTime 10).sig.slot .head).state = .valid ∧ ((atTime 40).sig.slot .head).loss = some 40 ∧
    (atTime 40).reached 40 = true := by decide
theorem witness_BoomSpeedFollowsAcceptedValues :
    ∃ s : State, s.sig.prevBoom = some (1200, 3000) ∧ ((3200 : Time) - 3000).toNat ≤ 200 ∧
      200 < ((3201 : Time) - 3000).toNat ∧ working.sig.prevBoom = none :=
  ⟨{ working with sig := { working.sig with prevBoom := some (1200, 3000) } }, by decide⟩
theorem witness_PhasesAndIndexMoveTheEncoder :
    working.din.homing = .homed ∧ State.reset.din.homing = .unhomed ∧ working.sig.boom.source = .encoder ∧
    phasePlace true false = (phasePlace working.din.qa working.din.qb + 1) % 4 ∧
    phasePlace true true = (phasePlace working.din.qa working.din.qb + 2) % 4 ∧
    phasePlace false true = (phasePlace working.din.qa working.din.qb + 3) % 4 ∧
    State.reset.sig.boom.source ≠ .encoder := by decide
theorem witness_OfferTickOffersTheCount :
    (atTime 10).din.offerTick = 10 ∧ (atTime 10).reached 10 = true ∧ (atTime 10).wen.record = some record ∧
    record.boomSource = .encoder ∧ (atTime 10).din.homing = .homed ∧ (atTime 10).din.power = .running ∧
    parked.din.power = .parked ∧ State.reset.wen.record = none ∧ State.reset.din.homing = .unhomed := by decide

/-- Line 3 with a function, its raw level risen 50 ms ago and not yet debounced. -/
def rising (f : LineFunction) : State :=
  { atTime 50 with din := { working.din with
      lines := working.din.lines.set 3 { Line.cold false with function := f, raw := true, stability := some 50 } } }

/-- Line 3 with a function, its level fallen 50 ms ago; the power state and the SERVICE level stand as given. -/
def falling (f : LineFunction) (power : Power) (service : Bool) : State :=
  { atTime 50 with din := { working.din with
      lines := working.din.lines.set 3 { Line.cold true with function := f, raw := false, stability := some 50 },
      power := power, service := service } }

/-- The current load has the greatest load number and holds `n` records of 1 kg. -/
def lastLoad (n : Nat) (s : State) : State :=
  { s with lac := { s.lac with load := { s.lac.load.withBuckets (List.replicate n (bucket 1 1)) with
      number := 4294967295 } } }

/-- A KEY line whose level fell 50 ms ago. -/
def keyFalls : State := falling .key .running false

/-- A KEY line that rose 50 ms ago on a parked part. -/
def keyRises : State := { rising .key with din := { (rising .key).din with power := .parked } }

theorem witness_LinesAreDebounced :
    (working.din.lines[(3 : Fin 4)]).raw ≠ true ∧
    ((rising .tare).din.lines[(3 : Fin 4)]).stability = some 50 ∧ (rising .tare).reached 50 = true ∧
    ((rising .tare).din.lines[(3 : Fin 4)]).raw ≠ ((rising .tare).din.lines[(3 : Fin 4)]).debounced ∧
    ((rising .tare).din.lines[(3 : Fin 4)]).edge = .rise ∧ ((rising .tare).din.lines[(3 : Fin 4)]).raw = true ∧
    ((falling .tip .running false).din.lines[(3 : Fin 4)]).raw = false ∧
    ((falling .tip .running false).din.lines[(3 : Fin 4)]).edge = .rise ∧
    ((falling .none .running false).din.lines[(3 : Fin 4)]).function = .none ∧
    (rising .nextTruck).mgt.mode = .run ∧ (rising .nextTruck).lac.load.buckets ≠ [] ∧
    (rising .nextTruck).lac.load.number ≠ 4294967295 ∧ State.reset.mgt.mode ≠ .run ∧
    (lastLoad 1 (rising .nextTruck)).mgt.mode = .run ∧ (lastLoad 1 (rising .nextTruck)).lac.load.buckets ≠ [] ∧
    (lastLoad 1 (rising .nextTruck)).lac.load.number = 4294967295 ∧
    ((lastLoad 1 (rising .nextTruck)).din.lines[(3 : Fin 4)]).function = .nextTruck ∧
    ((lastLoad 1 (rising .nextTruck)).din.lines[(3 : Fin 4)]).raw = true := by decide
/-- The lines keep their levels while the part parks, wakes and settles SERVICE. -/
theorem witness_LinesAreDebounced_levels :
    keyFalls.din.power = .running ∧ (after (.stabilityExpiry 3) keyFalls).din.keyOff = true ∧
    keyRises.din.power = .parked ∧ (after (.stabilityExpiry 3) keyRises).din.keyOff = false ∧
    (rising .key).din.power = .running ∧ (after (.stabilityExpiry 3) (rising .key)).din.keyOff = false ∧
    (falling .key .parked false).din.power = .parked ∧
    (after (.stabilityExpiry 3) (falling .key .parked false)).din.keyOff = true ∧
    (after (.stabilityExpiry 3) (rising .service)).din.serviceLevel = true ∧
    (falling .service .running true).din.service = true ∧
    (after (.stabilityExpiry 3) (falling .service .running true)).din.serviceLevel = false := by decide
theorem witness_ParkingAndWaking :
    working.wen.window = some openWindow ∧ State.reset.wen.window = none ∧ working.wen.calibration = none ∧
    (calibrating (.armed (some (-2200, 66000))) none).wen.calibration = some (calibration (.armed (some (-2200, 66000)))) ∧
    (calibrating (.rising 0 0 0 []) none).wen.calibration = some (calibration (.rising 0 0 0 [])) ∧
    (calibrating (.rising 0 0 0 [65000]) none).wen.calibration = some (calibration (.rising 0 0 0 [65000])) ∧
    (∃ s : State, s.wen.tareArmed = true ∧ s.wen.window.isSome = true ∧ s.wen.calibration.isSome = true) ∧
    (parked.sig.slot .head).source = .sxt 0 ∧ (parked.sig.slot .boom).source = .encoder ∧
    (parked.sig.slot .rod).source = .none :=
  ⟨by decide, by decide, by decide, by decide, by decide, by decide,
    ⟨{ working with wen := { working.wen with tareArmed := true, calibration := some (calibration (.armed none)) } },
      by decide⟩, by decide, by decide, by decide⟩

theorem witness_WindowTimeoutEndsTheWindow :
    (atTime 8000).wen.window = some openWindow ∧ (atTime 8000).wen.record = some record ∧
    (atTime 8000).reached openWindow.timeout = true ∧ record.nMin ≤ openWindow.samples.length ∧
    ({ openWindow with samples := openWindow.samples.take 3 } : Window).samples.length < record.nMin := by decide
theorem witness_MassesAreRoundedReadAndTrimmed_order :
    List.Perm [(9100 : Int), 8800] [8800, 9100] ∧ trimmed [(9100 : Int), 8800] 250 ≠ [] ∧
    trimmed [(9100 : Int), 8800] 500 = [] ∧ 500 ≤ 500 := by decide
theorem witness_MassesAreRoundedReadAndTrimmed :
    (2 : Int) ≠ 0 ∧ rdiv 3 2 = 2 ∧ rdiv (-3) 2 = -2 ∧ record.ok = true ∧ curveE.length = record.n ∧
    curveL.length = record.n ∧ 11 < record.n ∧ 10 + 1 < record.n ∧
    record.theta0 + (10 : Nat) * record.dTheta ≤ 3499 ∧ 3499 < record.theta0 + ((10 : Nat) + 1) * record.dTheta ∧
    (60928 : Int) < 118492 := by decide

/-- The part at work with BOOM at `v`, the previous θ_eff at `prev`, and this window. -/
def swung (v : Int) (prev : Option Int) (w : Option Window) : State :=
  { working with sig := { working.sig with boom := heardSlot .encoder v none none }
                 wen := { working.wen with window := w, prevTheta := prev } }

/-- The θ_lo of the record is 0, its θ_hi 2,000 and its H 150. -/
theorem witness_WindowOpensAndEndsAtTestPoints :
    working.mgt.mode = .run ∧ working.din.power = .running ∧ working.wen.record = some record ∧
    State.reset.mgt.mode ≠ .run ∧ parked.din.power = .parked ∧
    (swung 0 (some (-1)) none).wen.window = none ∧ (swung 0 (some (-1)) none).wen.prevTheta = some (-1) ∧
    (swung 0 (some (-1)) none).thetaEff = some 0 ∧ (swung 0 (some (-1)) none).cyt.state = .lift ∧
    (-1 : Int) < record.thetaLo ∧ record.thetaLo ≤ 0 ∧ (swung 0 (some 0) none).wen.prevTheta = some 0 ∧
    ¬ (0 : Int) < record.thetaLo := by decide
theorem witness_WindowOpensAndEndsAtTestPoints_open :
    (swung 2000 none (some openWindow)).thetaEff = some 2000 ∧ record.thetaHi ≤ 2000 ∧
    (swung 350 none (some openWindow)).thetaEff = some 350 ∧ (350 : Int) < record.thetaHi ∧
    (350 : Int) ≤ max openWindow.highest 350 - record.h ∧ max openWindow.highest 351 - record.h < (351 : Int) ∧
    State.reset.thetaEff = none := by decide

/-- The part at work with these HEAD and ROD pressures and this boom speed, ROD mapped. -/
def pressed (head rod : Int) (om : Option Int) : State :=
  { working with sig := { working.sig with head := heardSlot (.sxt 0) head none none,
                                           rod := heardSlot (.sxt 1) rod none none, omega := om } }

theorem witness_SamplesAreTestedInOrder :
    working.wen.record = some record ∧ working.wen.window = some openWindow ∧
    working.force = some (record.force 18500 0) ∧ working.sig.rod.state = .unmapped ∧
    working.sig.pitch.state = .unmapped ∧ (pressed 0 30000 none).sig.rod.state = .valid ∧
    (pressed 0 30000 none).force = some (-82470) ∧ State.reset.sig.head.state ≠ .valid ∧ State.reset.force = none ∧
    (swung (-1) none (some openWindow)).thetaEff = some (-1) ∧ (-1 : Int) < record.thetaLo ∧
    record.thetaHi < (2001 : Int) ∧ (swung 0 none (some openWindow)).thetaEff = some 0 ∧
    working.sig.omega = none ∧ (199 : Int) < record.omegaMin ∧ (record.omegaMin : Int) ≤ 200 := by decide
/-- The bands of the record at work end at 600, 1,200 and 2,000 cd/s. -/
theorem witness_SamplesAreTestedInOrder_bands :
    (∀ k : Fin 8, bands[k].upper ≠ 0 → (bands[k].upper : Int) < 2001) ∧ (bands[(1 : Fin 8)]).upper ≠ 0 ∧
    (1200 : Int) ≤ (bands[(1 : Fin 8)]).upper ∧
    (∀ j : Fin 8, j < 1 → bands[j].upper ≠ 0 → (bands[j].upper : Int) < 1200) ∧
    working.wen.curveE = some curveE ∧ working.wen.curveL = some curveL := by decide
set_option maxRecDepth 8192 in
theorem witness_SamplesAreTestedInOrder_mass :
    (pressed 0 30000 (some 1200)).thetaEff = some 820 ∧
    rdiv (10000 * (-82470 - record.lookup curveE 820)) (record.lookup curveL 820 - record.lookup curveE 820) < -20000 ∧
    -20000 ≤ rdiv (10000 * (116239 - record.lookup curveE 820)) (record.lookup curveL 820 - record.lookup curveE 820) ∧
    rdiv (10000 * (116239 - record.lookup curveE 820)) (record.lookup curveL 820 - record.lookup curveE 820) ≤ 80000 ∧
    openWindow.samples.length < 128 ∧
    128 ≤ ({ openWindow with samples := List.replicate 128 (9100, 0) } : Window).samples.length := by decide
theorem witness_WindowEndDrivesTareAndCycle :
    State.reset.wen.window = none ∧ working.wen.window = some openWindow ∧ working.wen.record = some record ∧
    record.nMin ≤ openWindow.samples.length ∧
    ({ openWindow with samples := openWindow.samples.take 3 } : Window).samples.length < record.nMin ∧
    working.cyt.state = .lift ∧ working.wen.tareArmed = false ∧
    ({ working with wen := { working.wen with tareArmed := true } } : State).wen.tareArmed = true := by decide

/-- The part at work with its window ended. -/
def lifted : State := { working with wen := { working.wen with window := none } }

/-- The part at work in a cycle state, with BOOM at `v` and HEAD at `head`. -/
def cycling (c : CycleState) (v head : Int) : State :=
  { lifted with
    sig := { working.sig with boom := heardSlot .encoder v none none, head := heardSlot (.sxt 0) head none none }
    cyt := { working.cyt with state := c } }

/-- The θ_dig of the record is −500 with H 150, its F_dig 80,000 with a release force of 70,000, its θ_lo 0. -/
theorem witness_EvaluationFollowsTheTable :
    (cycling .idle (-500) 12733).mgt.mode = .run ∧ (cycling .idle (-500) 12733).din.power = .running ∧
    (cycling .idle (-500) 12733).wen.record = some record ∧ (cycling .idle (-500) 12733).sig.boom.state = .valid ∧
    (cycling .idle (-500) 12733).sig.head.state = .valid ∧
    (cycling .idle (-500) 12733).force = some (record.force 12733 0) ∧ (-500 : Int) ≤ record.thetaDig ∧
    (record.fDig : Int) ≤ record.force 12733 0 ∧ record.force 12732 0 < record.fDig ∧
    record.thetaDig + record.h < (-349 : Int) ∧ (-350 : Int) ≤ record.thetaDig + record.h ∧
    record.force 11140 0 < record.fDig - rdiv record.fDig 8 ∧ record.fDig - rdiv record.fDig 8 ≤ record.force 11141 0 ∧
    record.thetaDig < (-499 : Int) ∧ (cycling .carry (-151) 0).thetaEff = some (-151) ∧
    (-151 : Int) < record.thetaLo - record.h ∧ record.thetaLo - record.h ≤ (-150 : Int) ∧
    parked.sig.boom.state ≠ .valid := by decide

/-- The θ_dump of the record is −2,500 with H 150. -/
theorem witness_TipTestsAndDumpsFollowTheCycle :
    working.mgt.mode = .run ∧ working.din.power = .running ∧ working.wen.record = some record ∧
    working.cyt.tipArmed = false ∧ record.thetaDump + record.h < (-2349 : Int) ∧
    (-2350 : Int) ≤ record.thetaDump + record.h ∧ record.thetaDump < (-2499 : Int) ∧ (-2500 : Int) ≤ record.thetaDump ∧
    State.reset.mgt.mode ≠ .run ∧ parked.din.power = .parked ∧ (cycling .idle 0 0).cyt.state = .idle ∧
    working.cyt.state = .lift ∧ working.wen.window.isSome = true ∧ lifted.wen.window = none ∧
    lifted.cyt.marker = false ∧ lifted.cyt.start = some 0 ∧ lifted.cyt.pending = none ∧
    ({ lifted with cyt := { lifted.cyt with tipArmed := true, marker := true } } : State).cyt.marker = true := by decide

theorem witness_DumpHandsOneRecord :
    lifted.mgt.mode = .run ∧ lifted.din.power = .running ∧ lifted.cyt.state = .lift ∧ lifted.wen.window = none ∧
    lifted.cyt.marker = false ∧ lifted.lac.load.buckets.length < 16 ∧ lifted.cyt.pending = none ∧
    lifted.cyt.start = some 0 := by decide
theorem witness_SeventeenthBucketClosesTheLoad :
    (∃ s : State, s.lac.load.buckets.length = 16 ∧ s.lac.load.number < 4294967295) ∧
    (lastLoad 16 working).lac.load.buckets.length = 16 ∧ (lastLoad 16 working).lac.load.number = 4294967295 :=
  ⟨⟨{ working with lac := { working.lac with load := working.lac.load.withBuckets (List.replicate 16 (bucket 1 1)) } },
    by decide⟩, by decide, by decide⟩
theorem witness_CancelLastRemovesTheNewest :
    State.reset.lac.load.buckets = [] ∧ working.lac.load.buckets = [] ++ [bucket 8878 1] ∧
    working.keepsResponses .cab = true ∧ working.keepsResponses .machine = true := by decide
theorem witness_NextTruckClosesTheLoad :
    working.lac.load.buckets ≠ [] ∧ working.lac.load.number ≠ 4294967295 ∧ working.hasRoom .cab = true ∧
    (lastLoad 1 working).lac.load.buckets ≠ [] ∧ (lastLoad 1 working).lac.load.number = 4294967295 ∧
    (lastLoad 1 working).hasRoom .machine = true ∧ (lastLoad 1 working).keepsResponses .cab = true := by decide
theorem witness_TargetMaterialAndShiftAreSet :
    (200000#24).toNat ≤ 200000 ∧ (20000#16).toNat ≤ 20000 ∧ 200000 < (200001#24).toNat ∧ 20000 < (20001#16).toNat ∧
    working.lac.materials[(0 : Fin 16)] ≠ 0 ∧ working.lac.materials[(15 : Fin 16)] = 0 ∧
    lifted.lac.load.buckets ≠ [] ∧
    ({ working with lac := { working.lac with load := Load.cold } } : State).lac.load.buckets = [] := by decide

/-- Channel M is empty and the transmitter FREE; G, E and C hold a frame each. -/
def queued : State :=
  { working with
    cport := { working.cport with m := ChannelState.cold, carrying := none, g := ⟨[pressure], false, false⟩,
                                  e := ⟨[pressure], true, false⟩, c := ⟨[pressure], false, false⟩ }
    mport := { working.mport with queue := [pressure] } }

theorem witness_TransmittersTakeInOrder :
    queued.cport.carrying = none ∧ queued.cport.tx.silence = none ∧ (queued.cport.chan .g).queue = pressure :: [] ∧
    (queued.cport.chan .g).held = false ∧ (queued.cport.chan .g).blocked = false ∧
    (queued.cport.chan .e).held = true ∧ (queued.cport.chan .m).queue = [] ∧ (frameBytes pressure).length = 8 ∧
    queued.mport.carrying = false ∧ queued.mport.tx.silence = none ∧ queued.mport.queue ≠ [] := by decide
theorem witness_AttemptOutcomesEndTheTransmission_sent :
    working.cport.carrying = some .m ∧ (working.cport.chan .m).queue = responseFrame 0x40 0x20 1 .ok [] :: [] ∧
    ∃ s : State, s.mport.carrying = true ∧ s.mport.queue = pressure :: [] :=
  ⟨by decide, by decide, { queued with mport := { queued.mport with carrying := true } }, by decide⟩

/-- The cab transmitter after `failed` FAILED attempts and `drops` drops. -/
def failing (failed drops : Nat) : State :=
  { working with cport := { working.cport with tx := ⟨failed, drops, none⟩ } }

/-- Both transmitters after 7 FAILED attempts and `drops` drops, the cab's carrying a frame of `ch`. -/
def dropping (ch : Channel) (drops : Nat) : State :=
  { queued with
    cport := { queued.cport with carrying := some ch, tx := ⟨7, drops, none⟩, pendingE := some true }
    mport := { queued.mport with carrying := true, tx := ⟨7, drops, none⟩ } }

theorem witness_AttemptOutcomesEndTheTransmission :
    (failing 6 0).carries .cab = true ∧ ((failing 6 0).tx .cab).failed < 7 ∧ ((failing 7 1).tx .cab).failed = 7 ∧
    ((failing 7 1).tx .cab).drops < 2 ∧ ((failing 7 2).tx .cab).drops = 2 ∧
    ((atTime 1000).setTx .cab ⟨0, 0, some 1000⟩).tx .cab = ⟨0, 0, some 1000⟩ ∧ (atTime 1000).reached 1000 = true := by
  decide
theorem witness_AttemptOutcomesEndTheTransmission_drop :
    (dropping .e 2).carries .cab = true ∧ (dropping .e 2).cport.carrying = some .e ∧
    ((dropping .e 2).tx .cab).failed = 7 ∧ ((dropping .e 2).tx .cab).drops = 2 ∧
    (dropping .g 1).cport.carrying = some .g ∧ (dropping .c 1).cport.carrying = some .c ∧
    (dropping .e 2).carries .machine = true ∧ ((dropping .e 2).tx .machine).failed = 7 ∧
    ((dropping .e 2).tx .machine).drops = 2 ∧ ((dropping .g 1).tx .machine).drops < 2 := by decide
theorem witness_ChannelMarksAndTogglesFollowTheActions :
    working.hasRoom .cab = true ∧ (working.cport.chan .m).blocked = false ∧
    ({ working with cport := { working.cport with c := ⟨[], false, true⟩ } } : State).cport.c.blocked = true ∧
    5 ≤ (5#8).toNat := by decide
theorem witness_ChannelMarksAndTogglesFollowTheActions_toggle :
    working.cport.carrying ≠ some .g ∧ working.cport.carrying ≠ some .e ∧
    ({ queued with cport := { queued.cport with carrying := some .g } } : State).cport.carrying = some .g ∧
    ({ queued with cport := { queued.cport with carrying := some .e } } : State).cport.carrying = some .e ∧
    2 ≤ (2#8).toNat := by decide
theorem witness_SettingsAndTareTakeEffect :
    working.mgt.mode = .run ∧ State.reset.mgt.mode ≠ .run ∧ working.hasRoom .cab = true ∧
    State.reset.hasRoom .machine = true ∧ (0x0801#16) ≠ 0 := by decide
theorem witness_GaugeExpiryOffersOneFrame :
    (atTime 100).cport.gauge = some 100 ∧ (atTime 100).reached 100 = true ∧ (atTime 100).wen.record = some record ∧
    record.gaugePeriod ≠ 0 := by decide
theorem witness_QueriesReportAndChangeNothing :
    3 ≤ (3#8).toNat ∧ (3#8).toNat < 4 ∧ (12#8).toNat < 13 ∧ State.reset.wen.record = none ∧
    working.wen.record = some record ∧ (4#8).toNat < 5 ∧ (23#8).toNat < 24 ∧ State.reset.wen.curveE = none ∧
    working.wen.curveL = some curveL ∧ working.lac.completed.length < (1#8).toNat ∧ 17 ≤ (17#8).toNat ∧
    10 ≤ (10#8).toNat ∧ 9 ≤ (9#8).toNat ∧ Table.fat.entries ≤ (48#8).toNat ∧ Table.fat.bytes ≤ 5 * (4#8).toNat ∧
    working.lac.load.buckets[(1#8).toNat - 1]? = some (bucket 8878 1) ∧ working.lac.load.buckets.length < (2#8).toNat ∧
    (4#8).toNat = roleCode .tilt ∧ (2#8).toNat < (12 + 4) / 5 ∧ (12 + 4) / 5 ≤ (3#8).toNat ∧
    working.hasRoom .machine = true ∧ (6#8 ≠ 6 ∨ 1#8 ≠ 1 ∨ 4 ≤ (4#8).toNat) ∧ (3#8).toNat = (3 : Fin 4).val := by decide
theorem witness_QueriesReportAndChangeNothing_summary :
    ∃ (s : State) (x : Summary), 1 ≤ (1#8).toNat ∧ s.lac.completed.reverse[(1#8).toNat - 1]? = some x :=
  ⟨{ working with lac := { working.lac with completed := [⟨working.lac.load, 0, .auto⟩] } }, ⟨working.lac.load, 0, .auto⟩,
    by decide⟩
theorem witness_EntriesReadBackAsStored :
    pressureEntry.ok = true ∧ pressureEntry.interval % 10 = 0 ∧ SxtEntry.cold.ok = true ∧
    -32768 ≤ SxtEntry.cold.multiplier ∧ SxtEntry.cold.multiplier ≤ 32767 ∧ record.ok = true ∧
    curveOk (-524280) = true ∧ curveOk 524280 = true ∧ curveOk 524281 = false := by decide
theorem witness_SetModeFollowsTheTable :
    3 ≤ (3#8).toNat ∧ 2 ≤ (2#8).toNat ∧ 5 ≤ (5#8).toNat ∧ working.mgt.mode = .run ∧
    working.wen.window.isSome = true ∧ lifted.mgt.mode = .run ∧ lifted.wen.window = none ∧
    State.reset.mgt.mode = .config ∧ State.reset.wen.record = none ∧ State.reset.hasRoom .cab = true ∧
    (calibrating (.armed none) none).mgt.mode = .calibrate := by decide
/-- Each condition of R201 fails alone, the ones before it met. -/
theorem witness_SetModeFollowsTheTable_conditions :
    let at' := fun (sig : Sig) (wen : Wen) => ({ State.reset with sig := sig, wen := wen } : State)
    let withRecord := { Wen.cold with record := some record }
    let curves := { withRecord with curveE := some curveE, curveL := some curveL }
    (at' Sig.cold withRecord).sig.head.mapped = false ∧
    (at' { working.sig with boom := Slot.cold } withRecord).sig.head.mapped = true ∧
    (at' { working.sig with boom := Slot.cold } withRecord).sig.boom.mapped = false ∧
    (at' working.sig withRecord).sig.boom.mapped = true ∧ (at' working.sig withRecord).wen.curveState ≠ .valid ∧
    (at' working.sig curves).wen.curveState = .valid ∧ anyBandUsed (at' working.sig curves).wen.bands = false ∧
    anyBandUsed (at' working.sig { curves with bands := bands }).wen.bands = true ∧
    (at' working.sig { curves with bands := bands }).lac.materialUsed = false := by decide
theorem witness_SetModeFollowsTheTable_ready :
    ∃ s : State, s.mgt.mode ≠ .run ∧ s.wen.record = some record ∧ s.sig.head.mapped = true ∧
      s.sig.boom.mapped = true ∧ s.wen.curveState = .valid ∧ anyBandUsed s.wen.bands = true ∧
      s.lac.materialUsed = true ∧ (1#8).toNat = CurveName.reference.code ∧ 1 ≤ (4#8).toNat ∧ (4#8).toNat ≤ 4 :=
  ⟨{ lifted with mgt := { working.mgt with mode := .config } }, by decide⟩

/-- A load in progress from the cab port: a MATERIAL run of one entry, with these bytes received so far. -/
def material (received : List Byte) : Assembly :=
  { failed := false, owner := .cab, table := .material, first := 15, count := 1, declared := 4,
    received := received, expected := 1, timeout := 500 }

/-- The part with a load in progress. -/
def loading (a : Assembly) : State := { atTime 500 with mgt := { working.mgt with assembly := some a } }

theorem witness_OpenLoadAndLoadDataFillTheBuffer :
    8 ≤ (8#8).toNat ∧ (6#8).toNat = Table.material.code ∧ (loading (material [])).mgt.assembly = some (material []) ∧
    (material []).owner ≠ .machine ∧ working.mgt.mode ≠ .config ∧ State.reset.mgt.mode = .config ∧
    State.reset.mgt.assembly = none ∧ (16#8).toNat + (32#8).toNat ≤ Table.fat.entries ∧
    (32#8).toNat * Table.fat.bytes ≤ 512 ∧ 512 < (33#8).toNat * Table.fat.bytes ∧
    Table.fat.entries < (17#8).toNat + (32#8).toNat ∧ (3#8).toNat = Table.curveE.code ∧
    (12#8).toNat = record.n ∧ (0#8).toNat + (12#8).toNat ≤ Table.curveE.entries ∧
    (12#8).toNat * Table.curveE.bytes ≤ 512 ∧ (13#8).toNat ≠ record.n ∧ State.reset.wen.record = none ∧
    working.wen.record = some record := by decide
theorem witness_OpenLoadAndLoadDataFillTheBuffer_data :
    working.mgt.assembly = none ∧ (loading (material [])).mgt.assembly = some (material []) ∧
    (material []).owner ≠ .machine ∧ ({ material [] with failed := true } : Assembly).failed = true ∧
    (material []).failed = false ∧ (0#8) ≠ (material []).expected ∧
    (material [0, 0, 0, 0]).received.length = (material [0, 0, 0, 0]).declared ∧
    (material [0, 0, 0]).received.length < (material [0, 0, 0]).declared := by decide
set_option maxRecDepth 8192 in
theorem witness_CloseLoadChecksInOrder :
    (loading (material [])).reached 500 = true ∧ (material [0]).received.length ≠ (material [0]).declared ∧
    (material []).table = .material ∧ ({ material [] with table := .fat } : Assembly).table ≠ .material ∧
    (loading (material [])).mgt.mode ≠ .config ∧ crc8 [0xF4, 0x01, 0, 0] ≠ 0 ∧ (material []).first = (15 : Fin 16).val ∧
    500 ≤ leNat [0xF4, 0x01] ∧ leNat [0x88, 0x13] ≤ 5000 ∧ leNat [0xF3, 0x01] < 500 ∧ 5000 < leNat [0x89, 0x13] := by
  decide
theorem witness_AbortLoadFreesTheOwnersLoad :
    working.mgt.assembly = none ∧ (loading (material [])).mgt.assembly = some (material []) ∧
    (material []).owner = .cab ∧ (material []).owner ≠ .machine ∧ (loading (material [])).hasRoom .machine = true := by
  decide

/-! ### Witnesses of a run that CLOSE_LOAD finds complete -/

/-- A run of a table that arrived whole from the cab port. -/
def arrived (table : Table) (first count : Nat) (bytes : List Byte) : Assembly :=
  { failed := false, owner := .cab, table := table, first := first, count := count, declared := count * table.bytes,
    received := bytes, expected := 0, timeout := 500 }

/-- A part in CONFIG that holds this load. -/
def closing (a : Assembly) : State := { State.reset with mgt := { State.reset.mgt with assembly := some a } }

theorem closing_ready (table : Table) (first count : Nat) (bytes : List Byte) (h : bytes.length = count * table.bytes) :
    (closing (arrived table first count bytes)).ReadyToClose .cab (crc8 bytes) (arrived table first count bytes) :=
  ⟨rfl, rfl, rfl, .inl rfl, rfl, h, rfl⟩

/-- A run of one entry holds it. -/
theorem holds_one {α : Type} {a : Assembly} {decode : List Byte → Option α} {ok : Nat → α → Prop} {x : α}
    (hc : a.count = 1) (hd : decode (a.entry 0) = some x) (hx : ok a.first x) : a.Holds decode ok [x] := by
  refine ⟨hc.symm, fun j y h => ?_⟩
  match j, h with
  | 0, h => cases h; exact ⟨hd, hx⟩

/-- The first entry of a run breaks its check. -/
theorem breaks_first {α : Type} {a : Assembly} {decode : List Byte → Option α} {ok : Nat → α → Prop} (hc : 0 < a.count)
    (h : ∀ x, decode (a.entry 0) = some x → ¬ ok a.first x) : a.BreaksAt decode ok 0 :=
  ⟨hc, fun _ h => absurd h (Nat.not_lt_zero _), h⟩

/-- FAT entry 47 of a run that holds it, and one whose reference names no SXT entry. -/
theorem witness_CloseLoadWritesItsRun_fat (ok : Nat → FatEntry → Prop) (h : ok 47 pressureEntry) :
    (arrived .fat 47 1 (encodeFat pressureEntry)).Holds decodeFat ok [pressureEntry] ∧
    (arrived .fat 47 1 ((encodeFat pressureEntry).set 10 16)).BreaksAt decodeFat ok 0 ∧
    (encodeFat pressureEntry).length = 1 * Table.fat.bytes ∧ pressureEntry.ok = true ∧
    State.reset.hasRoom .cab = true :=
  ⟨holds_one rfl (by decide) h, breaks_first (by decide) (fun x hx => absurd hx (by
    rw [show decodeFat ((arrived .fat 47 1 ((encodeFat pressureEntry).set 10 16)).entry 0) = none by decide]; simp)),
    by decide, by decide, by decide⟩
/-- Band 0 at 600 cd/s; a used band 1 above an unused band 0 breaks R65. -/
theorem witness_CloseLoadWritesItsRun_bands :
    (arrived .bands 0 1 (encodeBand ⟨600, 0⟩)).Holds decodeBand (fun _ _ => True) [⟨600, 0⟩] ∧
    (arrived .bands 1 1 (encodeBand ⟨600, 0⟩)).Holds decodeBand (fun _ _ => True) [⟨600, 0⟩] ∧
    (∀ k, bandAllowed (State.reset.wen.bands.set 0 ⟨600, 0⟩) k) ∧
    ¬ bandAllowed (State.reset.wen.bands.set 1 ⟨600, 0⟩) 1 ∧
    (∀ j : Fin 8, j < 1 → bandAllowed (State.reset.wen.bands.set 1 ⟨600, 0⟩) j) := by
  refine ⟨holds_one rfl (by decide) trivial, holds_one rfl (by decide) trivial, ?_, ?_, ?_⟩ <;> unfold bandAllowed <;> decide
/-- A density of 500 kg/m³ is held, one of 499 breaks; a debounce time of 500 ms is held, one of 510 breaks. -/
theorem witness_CloseLoadWritesItsRun_values :
    (arrived .material 15 1 (encodeMaterial 500)).Holds decodeMaterial (fun _ rho => 500 ≤ rho ∧ rho ≤ 5000) [500] ∧
    (arrived .material 15 1 (encodeMaterial 499)).BreaksAt decodeMaterial
      (fun _ rho => 500 ≤ rho ∧ rho ≤ 5000 ∨ rho = 0) 0 ∧
    15 + 1 ≤ 16 ∧
    (arrived .lines 3 1 [5, 0, 0xF4, 1]).Holds decodeLine (fun _ l => l.debounce ≤ 500) [⟨.key, .rise, 500⟩] ∧
    (arrived .lines 3 1 [5, 0, 0xFE, 1]).BreaksAt decodeLine (fun _ l => l.debounce ≤ 500) 0 := by
  refine ⟨holds_one rfl (by decide) (by decide), breaks_first (by decide) fun x hx => ?_, by decide,
    holds_one rfl (by decide) (by decide), breaks_first (by decide) fun x hx => ?_⟩
  · obtain rfl : 499 = x := Option.some.inj hx
    decide
  · obtain rfl : (⟨.key, .rise, 510⟩ : LineSetting) = x := Option.some.inj hx
    decide
/-- A KEY line loaded on a part whose lines are low parks it; without one a parked part wakes. -/
theorem witness_CloseLoadWritesItsRun_lines :
    State.reset.din.power = .running ∧ (State.reset.loadLines 3 [⟨.key, .rise, 500⟩] 0).din.keyOff = true ∧
    (State.reset.loadLines 3 [⟨.service, .rise, 500⟩] 0).din.keyOff = false ∧ parked.din.power = .parked ∧
    (parked.loadLines 3 [⟨.none, .rise, 500⟩] 0).din.keyOff = false ∧
    (parked.loadLines 3 [⟨.key, .rise, 500⟩] 0).din.keyOff = true := by decide
/-- SXT entry 15: HEAD alone is held; a second HEAD entry conflicts, and a length of 0 breaks. -/
theorem witness_CloseLoadSettlesSignalsAndCurves_sxt (ok : Nat → SxtEntry → Prop) (h : ok 15 (headEntry 7290))
    (h' : ∀ x, x.length = 0 → ¬ ok 15 x) :
    (arrived .sxt 15 1 (encodeSxt (headEntry 7290))).Holds decodeSxt ok [headEntry 7290] ∧
    (arrived .sxt 15 1 ((encodeSxt (headEntry 7290)).set 3 0)).BreaksAt decodeSxt ok 0 ∧
    (headEntry 7290).ok = true ∧
    sourceOf (State.reset.sig.sxt.set 15 (headEntry 7290)) none .head = .sxt 15 := by
  refine ⟨holds_one rfl (by decide) h, breaks_first (by decide) fun x hx => h' x ?_, by decide, by decide⟩
  obtain rfl : { headEntry 7290 with length := 0 } = x := Option.some.inj hx
  rfl
theorem witness_CloseLoadSettlesSignalsAndCurves_conflict :
    let v := working.sig.sxt.set 15 (headEntry 7290)
    let same := fun i j : Fin 16 => v[i].enabled = true ∧ v[j].enabled = true ∧ v[i].role = v[j].role
    (0 : Fin 16) ≠ 15 ∧ same 0 15 ∧ (∀ k l, k < 0 → same k l → k = l) ∧ ∀ k, same 0 k → k ≤ 15 := by decide
set_option maxRecDepth 8192 in
/-- The record of the examples is held; a spread below 50 daN at index 0 alone is INVALID. -/
theorem witness_CloseLoadSettlesSignalsAndCurves :
    (arrived .machine 0 1 (encodeRecord record)).Holds decodeRecord (fun _ r => r.ok = true) [record] ∧
    (arrived .machine 0 1 (List.replicate 64 0)).BreaksAt decodeRecord (fun _ r => r.ok = true) 0 ∧
    (arrived .curveL 0 1 (encodeCurve 66049)).Holds decodeCurve (fun _ v => -524280 ≤ v ∧ v ≤ 524280) [66049] ∧
    (arrived .curveL 0 1 (encodeCurve 524281)).BreaksAt decodeCurve (fun _ v => -524280 ≤ v ∧ v ≤ 524280) 0 ∧
    (66049 : Int) - curveE.getD 0 0 < 50 ∧ (50 : Int) ≤ 66050 - curveE.getD 0 0 ∧
    sameGrid (some record) record = true := by
  refine ⟨holds_one rfl (by decide) (by decide), breaks_first (by decide) fun x hx => ?_,
    holds_one rfl (by decide) (by decide), breaks_first (by decide) fun x hx => ?_, by decide, by decide, by decide⟩
  · have hz : (decodeRecord ((arrived .machine 0 1 (List.replicate 64 0)).entry 0)).map MachineRecord.ok = some false := by
      decide
    rw [hx] at hz
    simpa using hz
  · obtain rfl : 524281 = x := Option.some.inj hx
    decide

/-! ### Witnesses of the calibration and of the deferred change -/

/-- A sample at θ0 − H or above arms nothing; 1,500 cd/s is the calibration speed and 150 the record's H. -/
theorem witness_CalibrationRunsRiseAndBreak :
    (calibrating (.armed none) (some 1500)).mgt.mode = .calibrate ∧
    (calibrating (.armed none) (some 1500)).din.power = .running ∧
    (calibrating (.armed none) (some 1500)).wen.record = some record ∧
    (calibrating (.armed none) (some 1500)).wen.calibration = some (calibration (.armed none)) ∧
    (calibration (.armed none)).run = .armed none ∧ (calibrating (.armed none) (some 1500)).force = some 116239 ∧
    (calibrating (.armed none) (some 1500)).thetaEff = some 820 ∧ (1500 : Int) ≤ record.calSpeed ∧
    (record.calSpeed : Int) < 1501 ∧ (-2151 : Int) < record.theta0 - record.h ∧
    record.theta0 - record.h ≤ (-2150 : Int) ∧ (calibrating (.armed none) none).sig.omega = none ∧
    working.mgt.mode ≠ .calibrate ∧ State.reset.force = none ∧ State.reset.thetaEff = none := by decide
/-- θ_eff is 820 cd: a start sample at or above it, one below it, and a highest θ_eff 150 and 149 above it. -/
theorem witness_CalibrationRunsRiseAndBreak_rising :
    (calibration (.armed (some (819, 60000)))).run = .armed (some (819, 60000)) ∧ (819 : Int) < 820 ∧
    (820 : Int) ≤ max 970 820 - record.h ∧ max 969 820 - record.h < (820 : Int) ∧
    (calibration (.rising 0 60000 970 [])).run = .rising 0 60000 970 [] ∧ working.wen.calibration = none := by decide
/-- From −2,100 to −2,000 cd the grid angle 0 is captured; from 3,400 to 3,500 cd the last, 11. -/
theorem witness_CalibrationCapturesAndCompletes :
    record.captures 0 (-2100) 60000 (-2000) 61000 = [61000] ∧ 0 + 1 < record.n ∧
    record.captures 11 3400 58500 3500 58400 = [58400] ∧ record.n ≤ 11 + 1 := by decide
theorem witness_CalibrationCapturesAndCompletes_last :
    (calibration (.armed none)).runs ≤ (calibration (.armed none)).done + 1 ∧
    ({ calibration (.armed none) with done := 0 } : Calibration).done + 1 < 2 ∧
    (calibrating (.armed none) none).mgt.mode = .calibrate ∧
    (calibrating (.armed none) none).wen.curveL = some curveL ∧ State.reset.wen.curveL = none ∧
    curveL.length = (calibration (.armed none)).sums.length ∧
    50 ≤ curveL.getD 0 0 - rdiv ((calibration (.armed none)).sums.getD 0 0) 2 ∧
    (∀ i : Fin 12, 50 ≤ curveL.getD i 0 - curveE.getD i 0) ∧ (66049 : Int) - curveE.getD 0 0 < 50 := by decide
theorem witness_DeferredChangeIsApplied :
    working.mgt.deferred = none ∧ working.wen.window.isSome = true ∧ lifted.wen.window = none ∧
    lifted.mgt.mode = .run ∧ lifted.wen.record = some record ∧ lifted.sig.head.mapped = true ∧
    lifted.sig.boom.mapped = true ∧
    ({ lifted with mgt := { lifted.mgt with deferred := some .config } } : State).mgt.deferred = some .config ∧
    ({ lifted with mgt := { lifted.mgt with deferred := some (.calibrate .empty 4) } } : State).mgt.deferred =
      some (.calibrate .empty 4) ∧
    (atTime 8000).wen.window = some openWindow ∧ (atTime 8000).reached openWindow.timeout = true ∧
    ((atTime 40).sig.slot .head).loss = some 40 ∧ (atTime 40).reached 40 = true := by decide

/-! ### One step of a command -/

/-- R146: 50 ms of stability make the edge, and a TARE line arms tare. -/
theorem test_stability_tare : (after (.stabilityExpiry 3) (rising .tare)).wen.tareArmed = true := by decide
/-- R154: the key off parks the part and ends the window PARKED. -/
theorem test_key_off_parks :
    (after (.stabilityExpiry 3) keyFalls).din.power = .parked ∧
    ((after (.stabilityExpiry 3) keyFalls).wen.lastResult.map (·.ending)) = some .parked := by decide
/-- R149: a SERVICE line's edge makes the level active. -/
theorem test_service_line : (after (.stabilityExpiry 3) (rising .service)).din.service = true := by decide
/-- R74, example 4.13 window A with a tare of 35 kg, ended by the timeout: PARTIAL, mean 8,975 kg, mass 8,940 kg. -/
theorem test_window_result :
    ((openWindow.weighed record .timeout .bucket 35 8000).cls, (openWindow.weighed record .timeout .bucket 35 8000).mean,
      (openWindow.weighed record .timeout .bucket 35 8000).mass) = (.partialLift, some 8975, some 8940) := by decide
theorem test_window_timeout : (after .windowTimeout (atTime 7999)).wen.window = some openWindow ∧
    (after .windowTimeout (atTime 8000)).wen.window = none := by decide
/-- R36: not before the expiry, and at it. -/
theorem test_freshness :
    (after (.freshnessExpiry .head) (atTime 9)).sig.head.state = .valid ∧
    (after (.freshnessExpiry .head) (atTime 10)).sig.head.state = .stale := by decide
/-- R36, R71: the loss of HEAD latches SIGNAL_LOST and ends the window LOST. -/
theorem test_loss :
    (after (.lossExpiry .head) (atTime 40)).mgt.alerts = 1 ∧
    ((after (.lossExpiry .head) (atTime 40)).wen.lastResult.map (·.reason)) = some (some .signal) := by decide
/-- R18: the held frame goes to P and the timer restarts 100 ms on. -/
theorem test_interval_expiry :
    (after (.intervalTimerExpiry 47) holding).cport.p.queue = [pressure] ∧
    (after (.intervalTimerExpiry 47) holding).fcl.timers[(47 : Fin 48)] = some 100 := by decide
/-- R17: a running timer holds the frame. -/
theorem test_arrival_held : (after (.machineArrival ⟨pressure, 0⟩) holding).cport.p.queue = [] := by decide
/-- R11: nothing matches, zone 6 forwards. -/
theorem test_arrival_forwarded : (after (.machineArrival ⟨pressure, 0⟩) working).cport.p.queue = [pressure] := by decide
/-- R183: an SXT entry's table is outside READ_ENTRY's range at index 16. -/
theorem test_read_entry_range :
    newestStatus (after (.readEntry .cab 1 1 16 0) working) = some 3 ∧
    newestStatus (after (.readEntry .cab 1 1 15 3) working) = some 0 := by decide
/-- R152: 0 counts on an index angle of 4,200 cd. -/
theorem test_offer : (after .encoderOfferTick (atTime 10)).sig.boom.value = some 4200 := by decide
/-- R150: a double change is a phase error of a homed encoder. -/
theorem test_phase_error : (after (.phaseChange true true) working).din.homing = .unhomed ∧
    (after (.phaseChange true true) working).mgt.alerts = 2 := by decide
theorem test_phase_step : (after (.phaseChange false true) working).din.counter = 0xFFFFFFFF := by decide
theorem test_index_pulse : (after .indexPulse State.reset).din.homing = .homed := by decide
/-- R168: E is HELD, so G is taken before C; R173: the toggle 0 is stamped. -/
theorem test_arbiter_take : (after .arbiterTake queued).cport.carrying = some .g := by decide
theorem test_machine_take : (after .machineTxTake queued).mport.carrying = true := by decide
theorem test_sent : (after (.attemptSent .cab) working).cport.m.queue = [] := by decide
/-- R173, R174: the drop of a frame of E gives E's toggle its pending value, and leaves G's. -/
theorem test_drop_takes_pending :
    (after (.attemptFailed .cab) (dropping .e 1)).cport.toggleE = true ∧
    (after (.attemptFailed .cab) (dropping .g 1)).cport.toggleG = (dropping .g 1).cport.toggleG := by decide
/-- R170: the 8th failure latches TX_FAULT; R171: the third drop adds PORT_SILENT. -/
theorem test_eighth_failure :
    (after (.attemptFailed .cab) (failing 7 0)).mgt.alerts = 0x40 ∧
    (after (.attemptFailed .cab) (failing 7 2)).mgt.alerts = 0xC0 := by decide
theorem test_gauge_code :
    ((after .gaugeTimerExpiry (atTime 100)).cport.g.queue.map fun f => (frameBytes f)[0]?.map (· &&& 7)) = [some 4] := by
  decide
/-- R201: with nothing configured the first missing condition is the Machine Record. -/
theorem test_setMode_not_ready : newestStatus (after (.setMode .cab 1 1 0 0) State.reset) = some 4 := by decide
/-- R199: a window is OPEN, so the change is DEFERRED. -/
theorem test_setMode_deferred : newestStatus (after (.setMode .cab 1 0 0 0) working) = some 1 := by decide
/-- R190: 32 FAT entries fill the buffer, 33 do not fit. -/
theorem test_openLoad :
    newestStatus (after (.openLoad .cab 1 0 0 32) State.reset) = some 0 ∧
    newestStatus (after (.openLoad .cab 1 0 0 33) State.reset) = some 3 := by decide
/-- R191: the fourth byte completes the declared total; the padding is discarded. -/
theorem test_loadData :
    ((after (.loadData .cab 1 1 #v[9, 8, 7, 6, 5]) (loading (material [1]))).mgt.assembly.map (·.received)) =
      some [1, 9, 8, 7] := by decide
set_option maxRecDepth 8192 in
/-- R192, R126: 500 kg/m³ is the least density that a load may write. -/
theorem test_closeLoad :
    (after (.closeLoad .cab 1 (crc8 [0xF4, 0x01, 0, 0]))
      (loading (material [0xF4, 0x01, 0, 0]))).lac.materials[(15 : Fin 16)] = 500 := by decide
theorem test_loadTimeout : (after .loadTimeout (loading (material []))).mgt.assembly = none := by decide
theorem test_cancelLast : (after (.cancelLast .cab 1) working).lac.load.total = 0 := by decide
/-- R125, R134: at load number 4,294,967,295 the list is emptied and the next load is number 1. -/
theorem test_nextTruck_wraps :
    (after (.nextTruck .cab 1) (lastLoad 1 working)).lac.load.number = 1 ∧
    (after (.nextTruck .cab 1) (lastLoad 1 working)).lac.completed = [] := by decide
/-- R137: the closed load counts one truck of 8,878 kg. -/
theorem test_nextTruck :
    (after (.nextTruck .cab 1) working).lac.totals.materials[(0 : Fin 16)] = ⟨1, 1, 0, 8878⟩ := by decide
theorem test_setMaterial_unused : newestStatus (after (.setMaterial .cab 1 1) working) = some 3 := by decide
/-- R165: BLOCK M discards its own response. -/
theorem test_block_m : (after (.block .cab 1 3) working).cport.m.queue.length = 1 := by decide
theorem test_toggle_p : newestStatus (after (.toggleSet .cab 1 2) working) = some 3 := by decide
/-- R206: the response to SET_NODE still has the old node's identifier. -/
theorem test_setNode :
    ((after (.setNode .cab 1 0x55) working).cport.m.queue.getLast?.map (·.id)) = some (.extended 0x0C7F0040) ∧
    (after (.setNode .cab 1 0x55) working).mgt.node = 0x55 := by decide
/-- R207: the window ends MODE and the mode is CONFIG. -/
theorem test_restart :
    (after (.restart .cab 1) working).mgt.mode = .config ∧
    ((after (.restart .cab 1) working).wen.lastResult.map (·.reason)) = some (some .mode) := by decide
theorem test_cold_reset_node : (after (.coldReset { ResetPins.allLow with straps := 7 }) working).mgt.node = 0x47 := by
  decide

end Sys2Proof.Tests
end

section
/-! ## The raw count of a placed field (R31) -/
namespace Sys2Proof.RawCount
open Sys2Proof.Machine

/-- An UNSIGNED field counts as it is read. -/
@[simp] theorem rawCount_unsigned (length n : Nat) : rawCount false length n = (n : Int) := by
  simp [rawCount]

/-- With its top bit clear a SIGNED field counts as it is read. -/
theorem rawCount_signed_of_lt {length n : Nat} (htop : 2 * n < 2 ^ length) :
    rawCount true length n = (n : Int) := by
  simp [rawCount, htop]

/-- With its top bit set a SIGNED field counts `2 ^ length` less than it is read. -/
theorem rawCount_signed_of_le {length n : Nat} (htop : 2 ^ length ≤ 2 * n) :
    rawCount true length n = (n : Int) - (2 ^ length : Nat) := by
  simp [rawCount, htop]

/-- R31's two's complement number is the signed reading of the word that holds the field: both turn on the top bit. -/
theorem rawCount_signed_eq_toInt {length n : Nat} (hn : n < 2 ^ length) :
    rawCount true length n = (BitVec.ofNat length n).toInt := by
  have hword : (BitVec.ofNat length n).toNat = n := by
    rw [BitVec.toNat_ofNat, Nat.mod_eq_of_lt hn]
  rw [BitVec.toInt_eq_toNat_cond, hword]
  rcases Nat.lt_or_ge (2 * n) (2 ^ length) with htop | htop
  · rw [rawCount_signed_of_lt htop, if_pos htop]
  · rw [rawCount_signed_of_le htop, if_neg (Nat.not_lt.mpr htop)]

/-- R31's range of an UNSIGNED field. -/
theorem rawCount_unsigned_le {length n : Nat} (hn : n < 2 ^ length) :
    rawCount false length n ≤ 2 ^ length - 1 := by
  have hint : (n : Int) < 2 ^ length := by exact_mod_cast hn
  rw [rawCount_unsigned]
  omega

/-- R31's range of a SIGNED field. -/
theorem rawCount_signed_range {length n : Nat} (hn : n < 2 ^ length) :
    -(2 ^ (length - 1)) ≤ rawCount true length n ∧ rawCount true length n ≤ 2 ^ (length - 1) - 1 := by
  rw [rawCount_signed_eq_toInt hn]
  exact ⟨BitVec.le_toInt _, Int.le_sub_one_of_lt BitVec.toInt_lt⟩

/-- Settles O26: the signed reading is the word's, so its range is the range of a word of `length` bits. -/
theorem rawCountIsTwosComplement : Obligations.RawCountIsTwosComplement := by
  unfold Obligations.RawCountIsTwosComplement
  intro length n _ _ hn
  exact ⟨rawCount_unsigned length n, rawCount_unsigned_le hn, rawCount_signed_eq_toInt hn, rawCount_signed_range hn⟩

end Sys2Proof.RawCount
end

section
/-! ## ABORT_LOAD at each state of the assembly (R194) -/
namespace Sys2Proof.AbortLoad
open Sys2Proof.Machine

/-- With room for its response, the row ABORT_LOAD is the command that its port takes (R165). -/
theorem exec_abortLoad_of_room {p : Port} {s : State} (hroom : s.hasRoom p = true) (tag : Byte) :
    exec (.abortLoad p tag) s = .next (s.abortLoad p tag) :=
  calc exec (.abortLoad p tag) s
    _ = .next (s.takeRequest p s.time (State.abortLoad p tag)) := exec_of_request rfl s
    _ = .next (s.abortLoad p tag) := by rw [State.takeRequest_of_room hroom]

/-- On a FREE assembly there is no load to abort. -/
theorem abortLoad_of_free {s : State} (hfree : s.mgt.assembly = none) (p : Port) (tag : Byte) :
    s.abortLoad p tag = s.respond p 0x14 tag .noLoad [] := by
  simp [State.abortLoad, hfree]

/-- The owning port frees its load; the command reads no `failed` mark, so this is one rule for OPEN and FAILED. -/
theorem abortLoad_of_owner {p : Port} {a : Assembly} {s : State} (hload : s.mgt.assembly = some a)
    (howner : a.owner = p) (tag : Byte) :
    s.abortLoad p tag = (s.setAssembly none).respond p 0x14 tag .ok [] := by
  simp [State.abortLoad, hload, howner]

/-- The port that does not own the load leaves the assembly as it is. -/
theorem abortLoad_of_not_owner {p : Port} {a : Assembly} {s : State} (hload : s.mgt.assembly = some a)
    (hother : a.owner ≠ p) (tag : Byte) :
    s.abortLoad p tag = s.respond p 0x14 tag .owned [] := by
  simp [State.abortLoad, hload, hother]

/-- Settles O60: past the gate of the response queue, the assembly and its owner decide which of three answers it is. -/
theorem abortLoadFreesTheOwnersLoad : Obligations.AbortLoadFreesTheOwnersLoad := by
  unfold Obligations.AbortLoadFreesTheOwnersLoad
  intro p tag s hroom
  rw [exec_abortLoad_of_room hroom]
  refine ⟨fun hfree => ?free, fun a hload => ⟨fun howner => ?owner, fun hother => ?other⟩⟩
  case free => rw [abortLoad_of_free hfree]
  case owner => rw [abortLoad_of_owner hload howner]; rfl
  case other => rw [abortLoad_of_not_owner hload hother]

end Sys2Proof.AbortLoad
end

section
/-! ## What a step can do, event by event: a property that each event keeps is kept by every step -/
namespace Sys2Proof.Machine

/-- A decoded request is a row of the port it came from (R183, R211). -/
theorem encodeRequest_of_decodeRequest {p : Port} {bytes : List Byte} {i : Instr} (h : decodeRequest p bytes = some i) :
    ∃ b, encodeRequest i = some (p, b) := by
  unfold decodeRequest at h
  split at h
  · cases h; exact ⟨_, rfl⟩
  · unfold decodeFull decodeChannel at h
    repeat' split at h
    all_goals cases h <;> exact ⟨_, rfl⟩

/-- CLOSE_LOAD is among the rows. -/
def Closes (rows : Instr → Prop) : Prop := ∃ p tag crc, rows (.closeLoad p tag crc)

/-- What each kind of event does to a state, so that a property can be shown of every step by showing it of these. A
field names the event, with what the machine has tested before it. Events that a single row makes name that row, so that
a property of all but a few rows can leave those out of `rows`. -/
structure Kept (rows : Instr → Prop) (P : State → Prop) : Prop where
  waiting : (∀ i, rows i) → ∀ (q : List Instr) (s : State), P s → P { s with pending := q }
  coldReset : (∃ pins, rows (.coldReset pins)) → ∀ (pins : ResetPins) (s : State),
    P { State.cold pins with freeCount := s.freeCount, pending := s.pending }
  tick : rows .timebaseTick → ∀ s : State, P s → P { s with time := s.time + 1 }
  -- offers and alerts
  offerE : ∀ (f : Frame) (s : State), P s → P (s.offerE f)
  latch : ∀ (a : Alert) (s : State), P s → P (s.latch a)
  offerP : ∀ (f : Frame) (s : State), P s → P (s.offerP f)
  offerC : ∀ (f : Frame) (s : State), P s → P (s.offerC f)
  respond : ∀ (p : Port) (code tag : Byte) (st : Status) (results : List Byte) (s : State), s.hasRoom p = true →
    P s → P (s.respond p code tag st results)
  -- machine frames
  free : ∀ (n : Nat) (s : State), P s → P { s with freeCount := n }
  handOff : (∃ a, rows (.machineArrival a)) → ∀ (bytes : List Byte) (t : Time) (i : Fin 16) (s : State), P s →
      P (s.handOff bytes t i)
  hold : ∀ (i : Fin 48) (slot : Option Frame) (x : Time) (s : State), s.din.power = .running → P s →
    P (s.modFcl fun c => c.setHolding i slot (some x))
  drained : ∀ (i : Fin 48) (s : State), P s → P (s.modFcl fun c => c.setHolding i none none)
  refill : ∀ (i : Fin 48) (f : Frame) (x y : Time) (s : State), s.fcl.timers[i] = some x → s.fcl.held[i] = some f →
    P s → P (s.modFcl fun c => c.setHolding i none (some y))
  -- expiries
  fresh : ∀ (r : Role) (x : Time) (s : State), (s.sig.slot r).fresh = some x → (s.sig.slot r).state = .valid → P s →
    P (s.modSlot r Slot.goStale)
  loss : ∀ (r : Role) (x : Time) (s : State), (s.sig.slot r).loss = some x → P s → P (s.slotLost r x)
  timeout : ∀ (x : Time) (s : State), P s → P ((s.endWindow .timeout x).applyDeferred x)
  gauge : ∀ (x : Time) (s : State), s.cport.gauge = some x → P s → P (s.gaugeExpiry x)
  -- direct inputs
  offerBoom : rows .encoderOfferTick → ∀ (x y : Time) (s : State), P s →
      P ((s.modDin fun d => { d with offerTick := y }).offerBoom x)
  phases : ∀ (qa qb : Bool) (n : BitVec 32) (s : State), P s →
    P (s.modDin fun d => { d with qa := qa, qb := qb, counter := n })
  phaseError : ∀ (qa qb : Bool) (s : State), P s → P (s.phaseError qa qb)
  index : ∀ s : State, P s → P (s.modDin fun d => { d with counter := 0, homing := .homed })
  line : ∀ (i : Fin 4) (f : Line → Line) (s : State),
    (∀ l, (f l).function = l.function ∧ (f l).edge = l.edge ∧ (f l).debounce = l.debounce) → P s → P (s.modLine i f)
  dump : ∀ (t : Time) (s : State), P s → P ((s.dumpEvent t).applyDeferred t)
  park : ∀ (t : Time) (s : State), s.din.power = .running → P s → P (s.park t)
  wake : ∀ (t : Time) (s : State), s.din.power = .parked → P s → P (s.wake t)
  service : ∀ s : State, P s → P s.settleService
  -- the transmitters
  arbiterTake : ∀ (ch : Channel) (s : State), s.cport.ready = true → s.cport.eligible = some ch → P s →
    P (s.modCport fun p => p.takeFrom ch)
  machineTake : ∀ s : State, s.mport.carrying = false → s.mport.tx.silence = none → s.mport.queue ≠ [] → P s →
    P (s.modMport fun m => { m with carrying := true })
  cabSent : ∀ (ch : Channel) (s : State), s.cport.carrying = some ch → P s → P (s.modCport fun p => p.sent ch)
  machineSent : ∀ s : State, s.mport.carrying = true → P s → P (s.modMport Mport.sent)
  failed : ∀ (p : Port) (s : State), (s.tx p).failed + 1 < Config.failLimit → P s →
    P (s.setTx p { s.tx p with failed := (s.tx p).failed + 1 })
  discarded : ∀ (p : Port) (t : Time) (s : State), s.carries p = true → P s →
    P ((s.discardCarried p).setTx p ((s.tx p).dropped t))
  silenceEnd : ∀ (p : Port) (s : State), P s → P (s.setTx p { s.tx p with silence := none })
  -- requests
  reported : ∀ (page item part : Nat) (s : State), P s → P (s.clearReported page item part)
  mode : ∀ (mode target runs : Nat) (m : ModeTarget) (s : State), modeTargetOf mode target runs = some m → P s →
    P (s.requestMode m).state
  openLoad : ∀ (p : Port) (code first count : Nat) (k : Table) (t : Time) (s : State),
    s.openCheck p code first count = .ok k → P s → P (s.setAssembly (some (Assembly.start p k first count t)))
  loadData : ∀ (a : Assembly) (seq : Byte) (payload : List Byte) (t : Time) (s : State), s.mgt.assembly = some a →
    P s → P (s.setAssembly (some (a.afterData seq payload t)))
  failLoad : ∀ (a : Assembly) (s : State), s.mgt.assembly = some a → P s →
    P (s.setAssembly (some { a with failed := true }))
  freeLoad : ∀ s : State, P s → P (s.setAssembly none)
  loadFat : Closes rows → ∀ (first : Nat) (xs : List FatEntry) (s : State), P s → P (s.loadFat first xs)
  loadSxt : Closes rows → ∀ (v : Vector SxtEntry 16) (s : State), s.mgt.mode = .config → sxtConflict v = none → P s →
      P (s.loadSxt v)
  loadRecord : Closes rows → ∀ (r : MachineRecord) (s : State), s.mgt.mode = .config → s.mgt.assembly = none →
      r.ok = true → P s →
    P (s.loadRecord r)
  loadCurve : Closes rows → ∀ (a : Assembly) (c : CurveName) (xs : List Int) (s : State), s.mgt.mode = .config →
    s.mgt.assembly = some a → a.table = .curveE ∨ a.table = .curveL → xs.length = a.count →
    (∀ v ∈ xs, curveOk v = true) → P s → P ((s.setAssembly none).writeCurve c xs s.time)
  loadBands : Closes rows → ∀ (v : Vector Band 8) (s : State), s.mgt.mode = .config → P s →
      P (s.modWen fun w => { w with bands := v })
  loadMaterials : Closes rows → ∀ (first : Nat) (cs : List (List Byte)) (xs : List Nat) (s : State),
    checkRun decodeMaterial (fun i rho => s.lac.materialOk i rho) first cs = .ok xs → P s →
    P (s.modLac fun a => { a with materials := writeRun a.materials first xs })
  loadLines : Closes rows → ∀ (v : Vector Line 4) (s : State), s.mgt.mode = .config → P s →
      P (s.modDin fun d => { d with lines := v })
  tare : ∀ s : State, s.mgt.mode = .run → P s → P (s.modWen fun w => { w with tareArmed := true })
  cancelLast : ∀ (t : Time) (s : State), P s → P (s.cancelLast t)
  nextTruck : ∀ (by' : ClosedBy) (t : Time) (s : State), P s → P (s.nextTruck by' t)
  shiftClose : ∀ (t : Time) (s : State), P s → P (s.modLac fun a => { a with totals := Totals.zero t })
  target : ∀ (target tolerance : Nat) (t : Time) (s : State), targetOk target tolerance = true → P s →
    P ((s.modLac fun a => a.withTarget target tolerance).evalOverload t)
  material : ∀ (index : Nat) (k : Fin 16) (s : State), s.lac.usedMaterial index = some k → P s →
    P (s.modLac fun a => a.chooseMaterial k)
  holdChan : ∀ (ch : Channel) (s : State), P s → P (s.modCport (Cport.holdChan ch))
  releaseChan : ∀ (ch : Channel) (s : State), P s → P (s.modCport (Cport.releaseChan ch))
  blockChan : ∀ (ch : Channel) (s : State), P s → P (s.modCport (Cport.blockChan ch))
  unblockChan : ∀ (ch : Channel) (s : State), P s → P (s.modCport (Cport.unblockChan ch))
  toggle : ∀ (ch : Channel) (v : Bool) (s : State), ch.hasToggle = true → P s →
    P (s.modCport fun p => p.forceToggle ch v)
  capture : (∃ p tag v, rows (.setCapture p tag v)) → ∀ (v : BitVec 16) (s : State), P s →
      P (s.modCport fun p => { p with budget := v.toNat, gap := false })
  notices : (∃ p tag v, rows (.setNotices p tag v)) → ∀ (mask : BitVec 16) (s : State), P s →
      P (s.modMgt fun m => { m with mask := mask })
  clearAlerts : ∀ (mask : BitVec 16) (s : State), P s → P (s.modMgt fun m => { m with alerts := m.alerts &&& ~~~mask })
  node : (∃ p tag v, rows (.setNode p tag v)) → ∀ (node : Byte) (s : State), P s →
      P (s.modMgt fun m => { m with node := node })
  restart : (∃ p tag, rows (.restart p tag)) → ∀ s : State, P s → P s.endWork.warmValues

/-! ### Room for a response is kept by what a request does before it answers -/

theorem State.hasRoom_congr {s t : State} (hm : t.mport = s.mport) (hc : t.cport.m = s.cport.m) (p : Port) :
    t.hasRoom p = s.hasRoom p := by
  cases p <;> simp [State.hasRoom, hm, hc]

theorem State.hasRoom_modCport {s : State} (f : Cport → Cport)
    (hf : (f s.cport).m.queue.length ≤ s.cport.m.queue.length) {p : Port} (h : s.hasRoom p = true) :
    (s.modCport f).hasRoom p = true := by
  cases p
  · exact decide_eq_true (Nat.lt_of_le_of_lt hf (of_decide_eq_true h))
  · exact h

@[simp] theorem Cport.setChan_m_of_ne {ch : Channel} (h : ch ≠ .m) (p : Cport) (x : ChannelState) :
    (p.setChan ch x).m = p.m := by
  cases ch <;> first | rfl | exact absurd rfl h

/-- A mark action leaves M's queue, and BLOCK can only shorten it. -/
theorem Cport.mark_m_queue (ch : Channel) (p : Cport) :
    (p.holdChan ch).m.queue = p.m.queue ∧ (p.releaseChan ch).m.queue = p.m.queue ∧
    (p.unblockChan ch).m.queue = p.m.queue ∧ (p.blockChan ch).m.queue.length ≤ p.m.queue.length := by
  refine ⟨by cases ch <;> rfl, by cases ch <;> rfl, by cases ch <;> rfl, ?_⟩
  unfold Cport.blockChan
  split
  · cases ch <;> simp [Cport.setChan, Cport.chan]
  · cases ch <;> simp [Cport.setChan, Cport.chan, Cport.flush]
    split <;> simp

@[simp] theorem Cport.forceToggle_m (p : Cport) (ch : Channel) (v : Bool) : (p.forceToggle ch v).m = p.m := by
  unfold Cport.forceToggle
  split <;> cases ch <;> rfl

theorem State.requestMode_ports (m : ModeTarget) (s : State) :
    (s.requestMode m).state.mport = s.mport ∧ (s.requestMode m).state.cport.m = s.cport.m := by
  unfold State.requestMode State.changeUnless State.setDeferred
  cases m <;> dsimp only <;> (repeat' split) <;> simp

theorem State.clearReported_ports (page item part : Nat) (s : State) :
    (s.clearReported page item part).mport = s.mport ∧ (s.clearReported page item part).cport = s.cport := by
  unfold State.clearReported
  split <;> simp

/-- What CLOSE_LOAD writes leaves the response queues. -/
theorem State.writeTable_ports {k : Table} {first : Nat} {cs : List (List Byte)} {s w : State}
    (h : s.writeTable k first cs = .written w) : w.mport = s.mport ∧ w.cport.m = s.cport.m := by
  unfold State.writeTable at h
  repeat' split at h
  all_goals cases h <;> simp [State.loadFat, State.loadSxt, State.loadRecord]

/-! ### A run that passed its checks -/

@[simp] theorem chunks_length (size : Nat) (bytes : List Byte) (n : Nat) : (chunks size bytes n).length = n := by
  induction n generalizing bytes with
  | zero => rfl
  | succ n ih => simp [chunks, ih]

/-- A run that passes has an entry for each chunk, and each passed the check of its index. -/
theorem checkRun_eq_ok {α : Type} {decode : List Byte → Option α} {ok : Nat → α → Bool} {i : Nat}
    {cs : List (List Byte)} {xs : List α} (h : checkRun decode ok i cs = .ok xs) :
    xs.length = cs.length ∧ ∀ j x, xs[j]? = some x → ok (i + j) x = true := by
  induction cs generalizing i xs with
  | nil => cases h; exact ⟨rfl, by simp⟩
  | cons c cs ih =>
    simp only [checkRun] at h
    split at h
    case h_1 => cases h
    case h_2 x _ =>
      split at h
      case isFalse => cases h
      case isTrue hx =>
        split at h
        case h_2 => cases h
        case h_1 ys hys =>
          cases h
          obtain ⟨hlen, hall⟩ := ih hys
          refine ⟨by simp [hlen], fun j y hy => ?_⟩
          cases j with
          | zero => simpa [← Option.some.inj hy] using hx
          | succ j => simpa [Nat.add_assoc, Nat.add_comm 1] using hall j y hy

theorem checkRun_all {α : Type} {decode : List Byte → Option α} {ok : α → Bool} {i : Nat} {cs : List (List Byte)}
    {xs : List α} (h : checkRun decode (fun _ x => ok x) i cs = .ok xs) : ∀ x ∈ xs, ok x = true := by
  intro x hx
  obtain ⟨j, hj⟩ := List.getElem?_of_mem hx
  exact (checkRun_eq_ok h).2 j x hj

/-! ### The derived events -/

namespace Kept
variable {rows : Instr → Prop} {P : State → Prop} (K : Kept rows P)
include K

theorem raiseSub (a : Alert) (sub detail : Nat) (t : Time) {s : State} (h : P s) : P (s.raiseSub a sub detail t) := by
  unfold State.raiseSub
  split
  · exact K.offerE _ _ (K.latch _ _ h)
  · exact K.latch _ _ h

theorem settlePower (t : Time) {s : State} (h : P s) : P (s.settlePower t) := by
  unfold State.settlePower
  split
  · exact K.park t s ‹_› h
  · exact K.wake t s ‹_› h
  all_goals exact h

/-- CLOSE_LOAD's writing, by the table. -/
theorem written (hrow : Closes rows) {a : Assembly} {s w : State} (ha : s.mgt.assembly = some a)
    (hm : a.table.writable s.mgt.mode = true)
    (hw : (s.setAssembly none).writeTable a.table a.first (chunks a.table.bytes a.received a.count) = .written w)
    (h : P s) : P w := by
  have hfree := K.freeLoad s h
  have hconfig : a.table ≠ .material → s.mgt.mode = .config := by
    intro hne
    simpa [Table.writable, hne] using hm
  generalize hcs : chunks a.table.bytes a.received a.count = cs at hw
  have hlen : cs.length = a.count := by simp [← hcs]
  unfold State.writeTable at hw
  split at hw
  case h_1 hk =>
    split at hw <;> cases hw
    exact K.loadFat hrow _ _ _ hfree
  case h_2 hk =>
    split at hw
    · cases hw
    · split at hw <;> cases hw
      exact K.loadSxt hrow _ _ (hconfig (by simp [hk])) ‹_› hfree
  case h_3 hk =>
    split at hw <;> cases hw
    exact K.loadRecord hrow _ _ (hconfig (by simp [hk])) rfl (checkRun_all ‹_› _ (by simp)) hfree
  case h_4 hk =>
    split at hw <;> cases hw
    exact K.loadCurve hrow a _ _ s (hconfig (by simp [hk])) ha (.inl hk) ((checkRun_eq_ok ‹_›).1.trans hlen)
        (checkRun_all ‹_›) h
  case h_5 hk =>
    split at hw <;> cases hw
    exact K.loadCurve hrow a _ _ s (hconfig (by simp [hk])) ha (.inr hk) ((checkRun_eq_ok ‹_›).1.trans hlen)
        (checkRun_all ‹_›) h
  case h_6 hk =>
    split at hw
    · cases hw
    · split at hw <;> cases hw
      exact K.loadBands hrow _ _ (hconfig (by simp [hk])) hfree
  case h_7 hk =>
    split at hw <;> cases hw
    exact K.loadMaterials hrow _ _ _ _ ‹_› hfree
  case h_8 hk =>
    split at hw <;> cases hw
    exact K.settlePower _ (K.service _ (K.loadLines hrow _ _ (hconfig (by simp [hk])) hfree))

/-- An answer after an effect that left the response queues. -/
theorem answer {p : Port} {s t : State} (hr : s.hasRoom p = true) (h : P t) (hm : t.mport = s.mport)
    (hc : t.cport.m = s.cport.m) (code tag : Byte) (st : Status) (results : List Byte) :
    P (t.respond p code tag st results) :=
  K.respond p code tag st results t (by rw [State.hasRoom_congr hm hc]; exact hr) h

theorem channelAction {act : Channel → Cport → Cport} (hact : ∀ ch s, P s → P (s.modCport (act ch)))
    (hlen : ∀ ch p, (act ch p).m.queue.length ≤ p.m.queue.length) {p : Port} {s : State} (hr : s.hasRoom p = true)
    (h : P s) (tag channel : Byte) : P (s.channelAction act p tag channel) := by
  unfold State.channelAction
  split
  · exact K.respond _ _ _ _ _ _ (State.hasRoom_modCport _ (hlen _ _) hr) (hact _ _ h)
  · exact K.respond _ _ _ _ _ _ hr h

theorem toggleAction {p : Port} {s : State} (hr : s.hasRoom p = true) (h : P s) (v : Bool) (tag channel : Byte) :
    P (s.toggleAction v p tag channel) := by
  unfold State.toggleAction
  split
  · split
    · exact K.answer hr (K.toggle _ _ _ ‹_› h) rfl (by simp) _ _ _ _
    · exact K.respond _ _ _ _ _ _ hr h
  · exact K.respond _ _ _ _ _ _ hr h

theorem openLoad' {p : Port} {s : State} (hr : s.hasRoom p = true) (h : P s) (tag table first count : Byte) :
    P (s.openLoad p tag table first count) := by
  unfold State.openLoad
  split
  · exact K.respond _ _ _ _ _ _ hr h
  · exact K.answer hr (K.openLoad _ _ _ _ _ _ _ ‹_› h) rfl rfl _ _ _ _

theorem loadData' {p : Port} {s : State} (hr : s.hasRoom p = true) (h : P s) (tag seq : Byte) (payload : List Byte) :
    P (s.loadData p tag seq payload) := by
  unfold State.loadData
  split
  · exact K.respond _ _ _ _ _ _ hr h
  · split
    · exact K.respond _ _ _ _ _ _ hr h
    · split
      · exact K.respond _ _ _ _ _ _ hr h
      · exact K.answer hr (K.loadData _ _ _ _ _ ‹_› h) rfl rfl _ _ _ _

theorem closeLoad (hrow : Closes rows) {p : Port} {s : State} (hr : s.hasRoom p = true) (h : P s) (tag crc : Byte) :
    P (s.closeLoad p tag crc) := by
  unfold State.closeLoad
  split
  · exact K.respond _ _ _ _ _ _ hr h
  · rename_i a ha
    split
    · exact K.respond _ _ _ _ _ _ hr h
    split
    · exact K.respond _ _ _ _ _ _ hr h
    split
    · exact K.answer hr (K.freeLoad s h) rfl rfl _ _ _ _
    split
    · exact K.answer hr (K.failLoad a s ha h) rfl rfl _ _ _ _
    split
    · exact K.answer hr (K.failLoad a s ha h) rfl rfl _ _ _ _
    · unfold State.finishLoad
      have hfree := K.freeLoad s h
      dsimp only
      split
      case h_1 w hw =>
        obtain ⟨hm, hc⟩ := State.writeTable_ports hw
        exact K.answer hr (K.written hrow ha (by simp_all) hw h) hm hc _ _ _ _
      case h_2 => exact K.answer hr hfree rfl rfl _ _ _ _
      case h_3 => exact K.answer hr hfree rfl rfl _ _ _ _

theorem restart' {p : Port} {s : State} (hrow : ∃ p tag, rows (.restart p tag)) (h : P s) (tag : Byte) :
    P (s.cmdRestart p tag) := by
  have hwarm := K.restart hrow s h
  have hm : s.endWork.warmValues.mport = Mport.cold := by simp [State.warmValues]
  have hc : s.endWork.warmValues.cport.m = ChannelState.cold := by simp [State.warmValues, Cport.cold]
  have hroom : s.endWork.warmValues.hasRoom p = true := by
    cases p <;> simp [State.hasRoom, hm, hc, Mport.cold, ChannelState.cold, Config.capM, Config.capMachine]
  unfold State.cmdRestart
  split
  · exact K.respond _ _ _ _ _ _ hroom hwarm
  · exact K.answer hroom (K.offerE _ _ hwarm) (by simp) (by simp) _ _ _ _

/-- What a request's command does, by its row. -/
theorem carryOut {i : Instr} (hrow : rows i) {p : Port} {b : List Byte} (he : encodeRequest i = some (p, b)) {s : State}
    (hr : s.hasRoom p = true) (h : P s) : P (s.carryOut i) := by
  have plain := fun code tag st results => K.respond p code tag st results s hr h
  cases i <;> simp only [encodeRequest, Option.some.injEq, Prod.mk.injEq, reduceCtorEq] at he
  all_goals obtain ⟨rfl, -⟩ := he
  case identify =>
    simp only [State.carryOut, State.cmdIdentify]
    split <;> exact plain _ _ _ _
  case queryStatus =>
    simp only [State.carryOut, State.cmdQueryStatus]
    split
    · split
      · obtain ⟨hm, hc⟩ := State.clearReported_ports _ _ _ s
        exact K.answer hr (K.reported _ _ _ _ h) hm (by rw [hc]) _ _ _ _
      · exact plain _ _ _ _
    · exact plain _ _ _ _
  case readEntry =>
    simp only [State.carryOut, State.cmdReadEntry]
    split
    · exact plain _ _ _ _
    · split <;> exact plain _ _ _ _
  case queryLoad =>
    simp only [State.carryOut, State.cmdQueryLoad]
    split
    · split <;> exact plain _ _ _ _
    · exact plain _ _ _ _
  case queryTotals =>
    simp only [State.carryOut, State.cmdQueryTotals]
    split <;> exact plain _ _ _ _
  case readAlerts => exact plain _ _ _ _
  case setMode =>
    simp only [State.carryOut, State.cmdSetMode]
    split
    · exact plain _ _ _ _
    · obtain ⟨hm, hc⟩ := State.requestMode_ports _ s
      exact K.answer hr (K.mode _ _ _ _ _ ‹_› h) hm hc _ _ _ _
  case openLoad => exact K.openLoad' hr h _ _ _ _
  case loadData => exact K.loadData' hr h _ _ _
  case closeLoad => exact K.closeLoad ⟨_, _, _, hrow⟩ hr h _ _
  case abortLoad =>
    simp only [State.carryOut, State.abortLoad]
    split
    · exact plain _ _ _ _
    · split
      · exact plain _ _ _ _
      · exact K.answer hr (K.freeLoad s h) rfl rfl _ _ _ _
  case tare =>
    simp only [State.carryOut, State.cmdTare]
    split
    · exact K.answer hr (K.tare s ‹_› h) rfl rfl _ _ _ _
    · exact plain _ _ _ _
  case cancelLast =>
    simp only [State.carryOut, State.cmdCancelLast]
    split
    · exact plain _ _ _ _
    · exact K.answer hr (K.cancelLast _ _ h) (by simp) (by simp) _ _ _ _
  case nextTruck =>
    simp only [State.carryOut, State.cmdNextTruck]
    split
    · exact plain _ _ _ _
    · exact K.answer hr (K.nextTruck _ _ _ h) (by simp) (by simp) _ _ _ _
  case shiftClose => exact K.answer hr (K.shiftClose _ _ h) rfl rfl _ _ _ _
  case setTarget =>
    simp only [State.carryOut, State.cmdSetTarget]
    split
    · exact K.answer hr (K.target _ _ _ _ ‹_› h) (by simp) (by simp) _ _ _ _
    · exact plain _ _ _ _
  case setMaterial =>
    simp only [State.carryOut, State.cmdSetMaterial]
    split
    · exact K.answer hr (K.material _ _ _ ‹_› h) rfl rfl _ _ _ _
    · exact plain _ _ _ _
  case hold => exact K.channelAction K.holdChan (fun ch p => (Cport.mark_m_queue ch p).1 ▸ le_refl _) hr h _ _
  case release => exact K.channelAction K.releaseChan (fun ch p => (Cport.mark_m_queue ch p).2.1 ▸ le_refl _) hr h _ _
  case block => exact K.channelAction K.blockChan (fun ch p => (Cport.mark_m_queue ch p).2.2.2) hr h _ _
  case unblock => exact K.channelAction K.unblockChan (fun ch p => (Cport.mark_m_queue ch p).2.2.1 ▸ le_refl _) hr h _ _
  case toggleSet => exact K.toggleAction hr h _ _ _
  case toggleClear => exact K.toggleAction hr h _ _ _
  case setCapture => exact K.answer hr (K.capture ⟨_, _, _, hrow⟩ _ _ h) rfl rfl _ _ _ _
  case setNotices _ mask => exact K.answer hr (K.notices ⟨_, _, _, hrow⟩ mask _ h) rfl rfl _ _ _ _
  case clearAlerts =>
    simp only [State.carryOut, State.cmdClearAlerts]
    split
    · exact plain _ _ _ _
    · exact K.answer hr (K.clearAlerts _ _ h) rfl rfl _ _ _ _
  case setNode => exact K.node ⟨_, _, _, hrow⟩ _ _ (plain _ _ _ _)
  case restart => exact K.restart' ⟨_, _, hrow⟩ h _
  case unknownCommand => exact plain _ _ _ _
  case shortRequest => exact plain _ _ _ _

theorem takeRequest {p : Port} {f : State → State} {s : State} (hf : s.hasRoom p = true → P (f s)) (t : Time)
    (h : P s) :
    P (s.takeRequest p t f) := by
  obtain ⟨hr, he⟩ | ⟨-, he⟩ := State.takeRequest_cases p t f s
  · exact he ▸ hf hr
  · exact he ▸ K.raiseSub _ _ _ _ h

theorem carryOutBytes (hrows : ∀ i b, encodeRequest i = some b → rows i) {p : Port} {s : State}
    (hr : s.hasRoom p = true) (h : P s) (bytes : List Byte) :
    P (s.carryOutBytes p bytes) := by
  unfold State.carryOutBytes
  split
  · obtain ⟨b, hb⟩ := encodeRequest_of_decodeRequest ‹_›
    exact K.carryOut (hrows _ _ hb) hb hr h
  · exact K.respond _ _ _ _ _ _ hr h

/-! ### Machine frames -/

theorem underPolicy (p : Policy) (f : Frame) {s : State} (h : P s) : P (s.underPolicy p f) := by
  cases p
  · exact K.offerP f s h
  · exact h

theorem forwardFrame (i : Fin 48) (e : FatEntry) (f : Frame) {s : State} (hp : s.din.power = .running) (h : P s) :
    P (s.forwardFrame i e f) := by
  unfold State.forwardFrame
  split
  · exact h
  · split
    · exact K.offerP f s h
    · split
      · exact K.hold i none _ _ (by simpa using hp) (K.offerP f s h)
      · exact K.hold i (some f) _ s hp h

theorem extractFrame (hrow : ∃ a, rows (.machineArrival a)) (e : FatEntry) (f : Frame) (t : Time) {s : State}
    (h : P s) : P (s.extractFrame e f t) := by
  have ref : ∀ (r : Option (Fin 16)) (s : State), P s → P (s.handOffRef (frameBytes f) t r) := by
    intro r s h
    cases r
    · exact h
    · exact K.handOff hrow _ _ _ _ h
  unfold State.extractFrame
  split
  · exact ref _ _ (ref _ _ h)
  · exact h

theorem captureFrame (copies : Bool) (f : Frame) {s : State} (h : P s) : P (s.captureFrame copies f) := by
  cases copies
  · exact h
  · exact K.offerC f s h

theorem extractAndCapture (hrow : ∃ a, rows (.machineArrival a)) (e : FatEntry) (f : Frame) (t : Time) {s : State}
    (h : P s) : P (s.extractAndCapture e f t) := by
  unfold State.extractAndCapture
  dsimp only
  split
  · split
    · exact K.extractFrame hrow e f t (K.captureFrame _ f (K.free _ s h))
    · exact K.captureFrame _ f (K.extractFrame hrow e f t (K.free _ s h))
  · exact K.captureFrame _ f (K.extractFrame hrow e f t h)

theorem classify (a : Arrival) (hrow : rows (.machineArrival a)) {s : State} (h : P s) : P (s.classify a) := by
  unfold State.classify
  split
  · exact h
  · rename_i hp
    have hrun : s.din.power = .running := by
      cases he : s.din.power <;> simp_all
    split
    · exact h
    · exact K.underPolicy _ _ h
    · split
      · exact K.forwardFrame _ _ _ (by simpa using hrun) (K.extractAndCapture ⟨_, hrow⟩ _ _ _ h)
      · exact K.underPolicy _ _ h

theorem intervalExpiry {i : Fin 48} {x : Time} {s : State} (hx : s.fcl.timers[i] = some x) (h : P s) :
    P (s.intervalExpiry i x) := by
  unfold State.intervalExpiry
  split
  · rename_i f hf
    exact K.refill i f x _ _ (by simpa using hx) (by simpa using hf) (K.offerP _ _ h)
  · exact K.drained i s h

/-! ### Direct inputs and transmitters -/

theorem lineEvent (f : LineFunction) (t : Time) {s : State} (h : P s) : P (s.lineEvent f t) := by
  cases f
  case none => exact h
  case tip => exact K.dump t s h
  case tare =>
    simp only [State.lineEvent]
    split
    · exact K.tare s ‹_› h
    · exact h
  case nextTruck =>
    simp only [State.lineEvent]
    split
    · exact K.nextTruck _ _ _ h
    · exact h
  case cancelLast =>
    simp only [State.lineEvent]
    split
    · exact K.cancelLast _ _ h
    · exact h
  case key => exact K.settlePower t h
  case service => exact K.service s h

theorem lineEdge (i : Fin 4) (t : Time) {s : State} (h : P s) : P (s.lineEdge i t) := by
  unfold State.lineEdge
  dsimp only
  split
  · exact K.line _ _ _ (fun _ => ⟨rfl, rfl, rfl⟩) h
  · split
    · exact K.lineEvent _ _ (K.line _ _ _ (fun _ => ⟨rfl, rfl, rfl⟩) h)
    · exact K.line _ _ _ (fun _ => ⟨rfl, rfl, rfl⟩) h

theorem dropCarried {p : Port} {s : State} (hc : s.carries p = true) (t : Time) (h : P s) : P (s.dropCarried p t) := by
  have hd := K.discarded p t s hc h
  unfold State.dropCarried
  dsimp only
  split
  · exact K.raiseSub _ _ _ _ (K.raiseSub _ _ _ _ hd)
  · exact K.raiseSub _ _ _ _ hd

end Kept

/-- A due timer is running, with the expiry that is due. -/
theorem State.due_eq_some {s : State} {timer : Option Time} {x : Time} (h : s.due timer = some x) : timer = some x := by
  unfold State.due at h
  split at h
  · split at h <;> cases h
    rfl
  · cases h

/-- A property that every event of the rows keeps is kept by each of the rows; a command that carries a request may do
what any row does. -/
theorem Kept.exec {rows : Instr → Prop} {P : State → Prop} (K : Kept rows P) {c : Instr} {s t : State} (hrow : rows c)
    (hrows : carriesRequest s c = true → ∀ i b, encodeRequest i = some b → rows i) (he : exec c s = .next t)
    (h : P s) : P t := by
  cases hc : encodeRequest c with
  | some pb =>
    rw [exec_of_request (p := pb.1) (bytes := pb.2) hc] at he
    cases he
    exact K.takeRequest (fun hr => K.carryOut hrow hc hr h) _ h
  | none =>
    cases c <;> simp only [encodeRequest, reduceCtorEq] at hc
    all_goals
      have he := Host.Outcome.next.inj he
      subst he
    case coldReset => exact K.coldReset ⟨_, hrow⟩ _ _
    case timebaseTick => exact K.tick hrow s h
    case machineArrival =>
      unfold State.takeArrival
      split
      · exact K.takeRequest (fun hr => K.carryOutBytes (hrows (by simp_all [carriesRequest])) hr h _) _ h
      · exact K.classify _ hrow h
      · exact K.classify _ hrow h
    case intervalTimerExpiry =>
      split
      · exact K.intervalExpiry (State.due_eq_some ‹_›) h
      · exact h
    case freshnessExpiry =>
      split
      · split
        · exact K.fresh _ _ s (State.due_eq_some ‹_›) ‹_› h
        · exact h
      · exact h
    case lossExpiry =>
      split
      · exact K.loss _ _ s (State.due_eq_some ‹_›) h
      · exact h
    case windowTimeout =>
      split
      · exact K.timeout _ s h
      · exact h
    case encoderOfferTick =>
      split
      · exact K.offerBoom hrow _ _ s h
      · exact h
    case phaseChange =>
      split
      · exact K.phases _ _ _ s h
      · exact K.phaseError _ _ s h
    case indexPulse =>
      split
      · exact K.index s h
      · exact h
    case lineLevelChange =>
      split
      · exact h
      · exact K.line _ _ s (fun _ => ⟨rfl, rfl, rfl⟩) h
    case stabilityExpiry =>
      split
      · exact K.lineEdge _ _ h
      · exact h
    case cabArrival =>
      split
      · exact K.takeRequest (fun hr => K.carryOutBytes (hrows (by simp_all [carriesRequest])) hr h _) _ h
      · exact h
    case arbiterTake =>
      split
      · exact K.arbiterTake _ s ‹_› ‹_› h
      · exact h
    case machineTxTake =>
      split
      · rename_i hfree
        exact K.machineTake s hfree.1 hfree.2.1 hfree.2.2 h
      · exact h
    case attemptSent port =>
      cases port
      · dsimp only
        split
        · exact K.cabSent _ s ‹_› h
        · exact h
      · dsimp only
        split
        · exact K.machineSent s ‹_› h
        · exact h
    case attemptLost => exact h
    case attemptFailed =>
      split
      · split
        · exact K.failed _ s ‹_› h
        · exact K.dropCarried ‹_› _ h
      · exact h
    case silenceEnd =>
      split
      · exact K.silenceEnd _ s h
      · exact h
    case gaugeTimerExpiry =>
      split
      · exact K.gauge _ s (State.due_eq_some ‹_›) h
      · exact h
    case loadTimeout =>
      split
      · exact K.freeLoad s h
      · exact h

/-- All rows. -/
def EveryRow (_ : Instr) : Prop := True

/-- A property that every event keeps is kept by every step. -/
theorem Kept.step {P : State → Prop} (K : Kept EveryRow P) {s t : State} (h : P s) (hs : step s = .next t) : P t := by
  unfold Machine.step at hs
  split at hs
  · cases hs; exact h
  · exact K.exec trivial (fun _ _ _ _ => trivial) hs (K.waiting (fun _ => trivial) _ s h)

end Sys2Proof.Machine
end

section
/-! ## Offers to E: what an operation that raises alerts and offers display frames does to the cab port (R163, R202) -/
namespace Sys2Proof.Machine

/-- From `s` to `t` the cab port changes by offers to channel E alone, and alert flags other than the spare ones are
added. -/
def State.Emits (s t : State) : Prop :=
  ∃ (fs : List Frame) (bits : BitVec 16),
    t.cport = { s.cport with e := { s.cport.e with queue := s.cport.e.afterOffers fs } } ∧
    t.mgt.alerts = s.mgt.alerts ||| bits ∧ bits &&& 0xF000 = 0

theorem ChannelState.afterOffers_nil (x : ChannelState) : x.afterOffers [] = x.queue := by
  simp [ChannelState.afterOffers]

/-- Offers made one after the other are offers made together. -/
theorem ChannelState.afterOffers_append (x : ChannelState) (fs gs : List Frame) :
    ({ x with queue := x.afterOffers fs } : ChannelState).afterOffers gs = x.afterOffers (fs ++ gs) := by
  by_cases hb : x.blocked = true
  · simp [ChannelState.afterOffers, hb]
  · have hroom : 16 - (x.queue.length + min (16 - x.queue.length) fs.length) = 16 - x.queue.length - fs.length :=
      by omega
    simp only [ChannelState.afterOffers, hb, Bool.false_eq_true, if_false, List.append_assoc, List.take_append,
      List.length_append, List.length_take, hroom]

theorem ChannelState.afterOffers_blocked {x : ChannelState} (h : x.blocked = true) (fs : List Frame) :
    x.afterOffers fs = x.queue := by
  simp [ChannelState.afterOffers, h]

theorem ChannelState.afterOffers_length_le (x : ChannelState) (fs : List Frame) (h : x.queue.length ≤ 16) :
    (x.afterOffers fs).length ≤ 16 := by
  unfold ChannelState.afterOffers
  split
  · exact h
  · simp only [List.length_append, List.length_take]
    omega

theorem ChannelState.afterOffers_ne_nil {x : ChannelState} (fs : List Frame) (h : x.queue ≠ []) :
    x.afterOffers fs ≠ [] := by
  unfold ChannelState.afterOffers
  split
  · exact h
  · simp [h]

/-- One offer to E: its queue after it, with EVENT_LOST latched when it was full. -/
theorem State.offerE_queue (f : Frame) (s : State) :
    (s.offerE f).cport = { s.cport with e := { s.cport.e with queue := s.cport.e.afterOffers [f] } } := by
  unfold State.offerE ChannelState.afterOffers
  split
  · rfl
  · split
    · rename_i hlt
      have htake : [f].take (16 - s.cport.e.queue.length) = [f] :=
        List.take_of_length_le (by simp only [Config.capE] at hlt; simp only [List.length_singleton]; omega)
      simp [ChannelState.push, htake, State.modCport]
    · rename_i hlt
      have hfull : 16 - s.cport.e.queue.length = 0 := by simp only [Config.capE] at hlt; omega
      simp [hfull]

theorem Alert.bit_not_spare (a : Alert) : a.bit &&& 0xF000 = 0 := by cases a <;> rfl

namespace State.Emits
variable {s t u : State}

theorem refl (s : State) : s.Emits s :=
  ⟨[], 0, by rw [ChannelState.afterOffers_nil], by simp, rfl⟩

theorem trans (h : s.Emits t) (h' : t.Emits u) : s.Emits u := by
  obtain ⟨fs, b, hc, ha, hb⟩ := h
  obtain ⟨gs, b', hc', ha', hb'⟩ := h'
  refine ⟨fs ++ gs, b ||| b', ?_, by rw [ha', ha, BitVec.or_assoc], ?_⟩
  · rw [hc', hc, ← ChannelState.afterOffers_append]
  · rw [BitVec.and_or_distrib_right, hb, hb']
    rfl

/-- A change of the other blocks goes along. -/
theorem frame (h : s.Emits t) (hc : u.cport = t.cport) (ha : u.mgt.alerts = t.mgt.alerts) : s.Emits u := by
  obtain ⟨fs, b, h1, h2, h3⟩ := h
  exact ⟨fs, b, hc.trans h1, ha.trans h2, h3⟩

theorem latch (h : s.Emits t) (a : Alert) : s.Emits (t.latch a) :=
  h.trans ⟨[], a.bit, by simp [ChannelState.afterOffers_nil], rfl, a.bit_not_spare⟩

theorem offerE (h : s.Emits t) (f : Frame) : s.Emits (t.offerE f) := by
  refine h.trans ?_
  have hq := State.offerE_queue f t
  have hbits : ∃ bits : BitVec 16, (t.offerE f).mgt.alerts = t.mgt.alerts ||| bits ∧ bits &&& 0xF000 = 0 := by
    unfold State.offerE
    split
    · exact ⟨0, by simp, rfl⟩
    · split
      · exact ⟨0, by simp, rfl⟩
      · exact ⟨Alert.eventLost.bit, rfl, Alert.bit_not_spare _⟩
  obtain ⟨bits, hb⟩ := hbits
  exact ⟨[f], bits, hq, hb⟩

theorem raiseSub (h : s.Emits t) (a : Alert) (sub detail : Nat) (x : Time) : s.Emits (t.raiseSub a sub detail x) := by
  unfold State.raiseSub
  split
  · exact (h.latch a).offerE _
  · exact h.latch a

theorem raiseAlert (h : s.Emits t) (a : Alert) (detail : Nat) (x : Time) : s.Emits (t.raiseAlert a detail x) :=
  h.raiseSub a _ detail x

/-! ### The loads -/

theorem evalOverload (h : s.Emits t) (x : Time) : s.Emits (t.evalOverload x) := by
  unfold State.evalOverload
  dsimp only
  split
  · split
    · exact h.frame rfl rfl
    · exact State.Emits.raiseAlert (by exact h.frame rfl rfl) _ _ _
  · exact h.frame rfl rfl

theorem closeLoadNow (h : s.Emits t) (by' : ClosedBy) (x : Time) : s.Emits (t.closeLoadNow by' x) :=
  (State.Emits.offerE (h.frame (u := State.modLac _ t) rfl rfl) _).frame rfl rfl

theorem nextTruck (h : s.Emits t) (by' : ClosedBy) (x : Time) : s.Emits (t.nextTruck by' x) := by
  unfold State.nextTruck
  split
  · exact h
  · exact h.closeLoadNow by' x

theorem cancelLast (h : s.Emits t) (x : Time) : s.Emits (t.cancelLast x) := by
  unfold State.cancelLast
  split
  · exact h
  · exact State.Emits.evalOverload (by exact h.frame rfl rfl) x

theorem autoClose (h : s.Emits t) (x : Time) : s.Emits (t.autoClose x) := by
  unfold State.autoClose
  split
  · exact h
  · exact (h.closeLoadNow .auto x).raiseAlert _ _ _

theorem appendBucket (h : s.Emits t) (b : BucketRecord) : s.Emits (t.appendBucket b) :=
  State.Emits.offerE (by exact h.frame rfl rfl) _

theorem addBucket (h : s.Emits t) (r : HandedRecord) (x : Time) : s.Emits (t.addBucket r x) :=
  ((h.autoClose x).appendBucket _).evalOverload x

/-! ### The end of a window, and the cycle -/

theorem applyTarePass (h : s.Emits t) (r : WindowResult) : s.Emits (t.applyTarePass r) := by
  unfold State.applyTarePass
  dsimp only
  split
  · exact h.frame rfl rfl
  · split
    · exact h.frame rfl rfl
    · exact State.Emits.raiseAlert (by exact h.frame rfl rfl) _ _ _

theorem raiseUnsteady (h : s.Emits t) (r : WindowResult) : s.Emits (t.raiseUnsteady r) := by
  unfold State.raiseUnsteady
  split
  · exact h.raiseAlert _ _ _
  · exact h

theorem endWindow (h : s.Emits t) (e : Ending) (x : Time) : s.Emits (t.endWindow e x) := by
  unfold State.endWindow
  split
  · exact h
  · dsimp only
    split
    · exact (State.Emits.applyTarePass (by exact (h.raiseUnsteady _).frame rfl rfl) _).frame rfl rfl
    · exact (h.raiseUnsteady _).frame rfl rfl

theorem cycleTo (h : s.Emits t) (next : CycleState) (x : Time) : s.Emits (t.cycleTo next x) :=
  h.frame (by simp) (by simp)

theorem evaluate (h : s.Emits t) (x : Time) : s.Emits (t.evaluate x) := h.frame (by simp) (by simp)

theorem dumpEvent (h : s.Emits t) (x : Time) : s.Emits (t.dumpEvent x) := by
  unfold State.dumpEvent
  split
  · refine State.Emits.frame (t := State.dumpRecord x _) ?_ rfl rfl
    unfold State.dumpRecord
    split
    · exact (h.endWindow .dumped x).frame rfl rfl
    · exact ((h.endWindow .dumped x).addBucket _ x).frame rfl rfl
  · exact h

theorem tipTest (h : s.Emits t) (v : Int) (x : Time) : s.Emits (t.tipTest v x) := by
  unfold State.tipTest
  split
  · split
    · exact h
    · split
      · split
        · exact State.Emits.dumpEvent (by exact h.frame rfl rfl) x
        · exact h
      · split
        · exact h.frame rfl rfl
        · exact h
  · exact h

/-! ### Test points -/

theorem weighSample (h : s.Emits t) (r : MachineRecord) (x : Time) : s.Emits (t.weighSample r x) := by
  unfold State.weighSample
  split
  · exact h
  · dsimp only
    unfold State.raiseOverspeed
    have hs : ∀ w, s.Emits (((t.noteLatest x).modWen fun y => { y with window := w })) := fun w =>
      h.frame (by simp) (by simp)
    split
    · split
      · exact hs _
      · exact (hs _).raiseAlert _ _ _
    all_goals exact hs _

theorem endTest (h : s.Emits t) (r : MachineRecord) (theta : Option Int) (x : Time) :
    s.Emits (t.endTest r theta x) := by
  unfold State.endTest
  split
  · split
    · exact h.endWindow _ _
    · dsimp only
      split
      · exact State.Emits.endWindow (by exact h.frame rfl rfl) _ _
      · exact h.frame rfl rfl
  · exact h

theorem testPoint (h : s.Emits t) (isHead : Bool) (x : Time) : s.Emits (t.testPoint isHead x) := by
  unfold State.testPoint
  split
  · split
    · exact h
    · rename_i r _
      have hopen : s.Emits (t.openTest r t.thetaEff x) := by
        unfold State.openTest
        split
        · split
          · exact h.frame rfl rfl
          · exact h
        · exact h
      dsimp only
      refine State.Emits.frame (t := State.endTest r t.thetaEff x _) ?_ rfl rfl
      apply State.Emits.endTest
      split
      · exact hopen.weighSample r x
      · exact hopen
  · exact h

/-! ### Modes and calibrations -/

theorem changeMode (h : s.Emits t) (m : ModeTarget) (cause : NoticeCause) (x : Time) :
    s.Emits (t.changeMode m cause x) := by
  unfold State.changeMode State.noticeMode
  dsimp only
  apply State.Emits.offerE
  refine State.Emits.frame (t := t) h ?_ ?_ <;> (repeat' split) <;> rfl

theorem applyDeferred (h : s.Emits t) (x : Time) : s.Emits (t.applyDeferred x) := by
  unfold State.applyDeferred
  split
  · dsimp only
    split
    · exact State.Emits.changeMode (by exact h.frame rfl rfl) _ _ _
    · split
      · exact State.Emits.changeMode (by exact h.frame rfl rfl) _ _ _
      · exact h.frame rfl rfl
  · exact h

theorem progress (h : s.Emits t) (c : CurveName) (run points : Nat) (o : ProgressOutcome) (x : Time) :
    s.Emits (t.progress c run points o x) := h.offerE _

theorem breakRun (h : s.Emits t) (reason : BreakReason) (x : Time) : s.Emits (t.breakRun reason x) := by
  unfold State.breakRun
  split
  · split
    · exact State.Emits.progress (by exact h.frame rfl rfl) _ _ _ _ _
    · exact h
  · exact h

theorem interruptRun (h : s.Emits t) (reason : BreakReason) (x : Time) : s.Emits (t.interruptRun reason x) := by
  unfold State.interruptRun
  split
  · split
    · exact h.breakRun _ _
    · exact h.frame rfl rfl
  · exact h

theorem writeCurve (h : s.Emits t) (c : CurveName) (v : List Int) (x : Time) : s.Emits (t.writeCurve c v x) := by
  unfold State.writeCurve
  dsimp only
  split
  · exact State.Emits.raiseAlert (by exact h.frame rfl rfl) _ _ _
  · exact h.frame rfl rfl

theorem runDone (h : s.Emits t) (c : Calibration) (points : Nat) (x : Time) : s.Emits (t.runDone c points x) := by
  have hdone : ∀ c' : Calibration, s.Emits (t.setCal c') := fun c' => h.frame rfl rfl
  unfold State.runDone
  dsimp only
  split
  · exact (hdone _).progress _ _ _ _ _
  · exact ((((hdone _).progress _ _ _ _ _).writeCurve _ _ _).progress _ _ _ _ _).changeMode _ _ _

theorem capturePoints (h : s.Emits t) (r : MachineRecord) (c : Calibration) (th0 f0 top : Int) (values : List Int)
    (th1 f1 : Int) (x : Time) : s.Emits (t.capturePoints r c th0 f0 top values th1 f1 x) := by
  unfold State.capturePoints
  dsimp only
  split
  · exact h.runDone _ _ _
  · exact h.frame rfl rfl

theorem calHead (h : s.Emits t) (r : MachineRecord) (c : Calibration) (x : Time) : s.Emits (t.calHead r c x) := by
  have hset : ∀ c' : Calibration, s.Emits (t.setCal c') := fun c' => h.frame rfl rfl
  unfold State.calHead
  split
  · split
    · unfold State.armedSample
      split
      · split
        · exact h.capturePoints _ _ _ _ _ _ _ _ _
        · exact hset _
      · split
        · exact hset _
        · exact h
    · exact hset _
  · split
    · exact h.breakRun _ _
    · split
      · exact h.breakRun _ _
      · split
        · exact h.breakRun _ _
        · exact h.capturePoints _ _ _ _ _ _ _ _ _

theorem calBoom (h : s.Emits t) (r : MachineRecord) (c : Calibration) (x : Time) : s.Emits (t.calBoom r c x) := by
  unfold State.calBoom
  split
  · split
    · exact h.breakRun _ _
    · split
      · exact h.breakRun _ _
      · exact h.frame rfl rfl
  · exact h

theorem calPoint (h : s.Emits t) (isHead : Bool) (x : Time) : s.Emits (t.calPoint isHead x) := by
  unfold State.calPoint
  split
  · split
    · split
      · exact State.Emits.calHead (by exact h.frame (by simp) (by simp)) _ _ _
      · exact h.calBoom _ _ _
    · exact h
  · exact h

/-! ### Accepted values and losses -/

theorem readAccepted (h : s.Emits t) (r : Role) (v : Int) (x : Time) : s.Emits (t.readAccepted r v x) := by
  cases r
  case head => exact (((h.testPoint true x).calPoint true x).evaluate x).applyDeferred x
  case boom => exact (((h.testPoint false x).calPoint false x).evaluate x).applyDeferred x
  case tilt => exact (h.tipTest v x).applyDeferred x
  all_goals exact h

theorem takeValue (h : s.Emits t) (r : Role) (v : Int) (x : Time) (timeout : Option Nat) :
    s.Emits (t.takeValue r v x timeout) :=
  State.Emits.readAccepted (by exact h.frame (by simp) (by simp)) _ _ _

theorem handOff (h : s.Emits t) (bytes : List Byte) (x : Time) (i : Fin 16) : s.Emits (t.handOff bytes x i) := by
  unfold State.handOff
  dsimp only
  split
  · exact h
  · exact h.frame rfl rfl
  · exact h.frame rfl rfl
  · exact h.takeValue _ _ _ _

theorem offerBoom (h : s.Emits t) (x : Time) : s.Emits (t.offerBoom x) := by
  unfold State.offerBoom
  split
  · split
    · exact h.takeValue _ _ _ _
    · exact h
  · exact h

theorem slotLost (h : s.Emits t) (r : Role) (x : Time) : s.Emits (t.slotLost r x) := by
  unfold State.slotLost
  have hl : s.Emits ((t.modSlot r Slot.goLost).raiseAlert .signalLost (roleCode r) x) :=
    State.Emits.raiseAlert (by exact h.frame rfl rfl) _ _ _
  dsimp only
  split
  · exact ((hl.endWindow _ _).interruptRun _ _).applyDeferred _
  · exact hl

theorem phaseError (h : s.Emits t) (qa qb : Bool) : s.Emits (t.phaseError qa qb) := by
  unfold State.phaseError
  dsimp only
  split
  · exact State.Emits.raiseAlert (by exact h.frame (by simp) (by simp)) _ _ _
  · exact h.frame rfl rfl

theorem requestMode (h : s.Emits t) (m : ModeTarget) : s.Emits (t.requestMode m).state := by
  unfold State.requestMode State.changeUnless State.setDeferred
  cases m <;> dsimp only <;> split <;> (try split) <;>
    first
    | exact h
    | exact h.frame rfl rfl
    | exact h.changeMode _ _ _
    | (split <;> first | exact h | exact h.changeMode _ _ _)

end State.Emits

end Sys2Proof.Machine
end

section
/-! ## Both ports stay sound through every step (R5, R159, R161, R169 to R175) -/
namespace Sys2Proof.Machine

@[simp] theorem Cport.setChan_setChan (p : Cport) (ch : Channel) (x y : ChannelState) :
    (p.setChan ch x).setChan ch y = p.setChan ch y := by
  cases ch <;> rfl

@[simp] theorem Cport.setChan_chan (p : Cport) (ch : Channel) : p.setChan ch (p.chan ch) = p := by
  cases ch <;> rfl

/-- BLOCK of a channel whose mark was set changes nothing. -/
theorem Cport.blockChan_of_blocked {p : Cport} {ch : Channel} (h : (p.chan ch).blocked = true) :
    p.blockChan ch = p := by
  have hx : ({ p.chan ch with blocked := true } : ChannelState) = p.chan ch := by rw [← h]
  simp only [Cport.blockChan, h, if_true, hx, Cport.setChan_chan]

/-- BLOCK of a channel whose mark was clear flushes it and sets the mark (R161). -/
theorem Cport.blockChan_of_unmarked {p : Cport} {ch : Channel} (h : (p.chan ch).blocked = false) :
    p.blockChan ch = p.setChan ch { p.chan ch with
      queue := if p.carrying = some ch then (p.chan ch).queue.take 1 else [], blocked := true } := by
  simp [Cport.blockChan, h, Cport.flush]

/-! What the operations on a carried frame leave of the channels -/

/-- The channels of the port after a take: the taken one has its oldest frame stamped. -/
theorem Cport.takeFrom_chan (p : Cport) (ch d : Channel) : (p.takeFrom ch).chan d =
    (p.setChan ch { p.chan ch with queue := mapHead (stampFrame (p.toggle ch)) (p.chan ch).queue }).chan d := by
  cases d <;> rfl

theorem Cport.letGo_chan (p : Cport) (ch d : Channel) :
    (p.letGo ch).chan d = (p.setChan ch (p.chan ch).pop).chan d := by
  cases d <;> rfl

@[simp] theorem Cport.setToggle_chan (p : Cport) (ch d : Channel) (v : Bool) :
    (p.setToggle ch v).chan d = p.chan d := by
  cases ch <;> cases d <;> rfl

@[simp] theorem Cport.setPending_chan (p : Cport) (ch d : Channel) (v : Option Bool) :
    (p.setPending ch v).chan d = p.chan d := by
  cases ch <;> cases d <;> rfl

@[simp] theorem Cport.settleToggle_chan (p : Cport) (ch d : Channel) : (p.settleToggle ch).chan d = p.chan d := by
  unfold Cport.settleToggle
  split <;> simp

@[simp] theorem Cport.flipToggle_chan (p : Cport) (ch d : Channel) : (p.flipToggle ch).chan d = p.chan d := by
  unfold Cport.flipToggle
  split <;> simp

/-- The toggles change nothing but the toggles. -/
theorem Cport.setToggle_frame (p : Cport) (ch : Channel) (v : Bool) :
    (p.setToggle ch v).carrying = p.carrying ∧ (p.setToggle ch v).tx = p.tx ∧
    (p.setToggle ch v).pendingG = p.pendingG ∧ (p.setToggle ch v).pendingE = p.pendingE ∧
    (p.setToggle ch v).budget = p.budget ∧ (p.setToggle ch v).gap = p.gap ∧ (p.setToggle ch v).gauge = p.gauge := by
  cases ch <;> simp [Cport.setToggle]

theorem Cport.setPending_frame (p : Cport) (ch : Channel) (v : Option Bool) :
    (p.setPending ch v).carrying = p.carrying ∧ (p.setPending ch v).tx = p.tx ∧
    (p.setPending ch v).toggleG = p.toggleG ∧ (p.setPending ch v).toggleE = p.toggleE ∧
    (p.setPending ch v).budget = p.budget ∧ (p.setPending ch v).gap = p.gap ∧ (p.setPending ch v).gauge = p.gauge := by
  cases ch <;> simp [Cport.setPending]

/-- A discarded frame leaves its channel's toggle, or a pending one takes effect (R170, R174). -/
theorem Cport.settleToggle_frame (p : Cport) (ch : Channel) :
    (p.settleToggle ch).carrying = p.carrying ∧ (p.settleToggle ch).tx = p.tx ∧
    (p.settleToggle ch).budget = p.budget ∧ (p.settleToggle ch).gap = p.gap ∧ (p.settleToggle ch).gauge = p.gauge ∧
    (p.settleToggle ch).pendingG = (if ch = .g then none else p.pendingG) ∧
    (p.settleToggle ch).pendingE = (if ch = .e then none else p.pendingE) ∧
    (p.settleToggle ch).toggleG = (if ch = .g then p.pendingG.getD p.toggleG else p.toggleG) ∧
    (p.settleToggle ch).toggleE = (if ch = .e then p.pendingE.getD p.toggleE else p.toggleE) := by
  cases ch <;> cases hG : p.pendingG <;> cases hE : p.pendingE <;>
    simp_all [Cport.settleToggle, Cport.pendingToggle, Cport.setToggle, Cport.setPending]

theorem Cport.flipToggle_frame (p : Cport) (ch : Channel) :
    (p.flipToggle ch).carrying = p.carrying ∧ (p.flipToggle ch).tx = p.tx ∧
    (p.flipToggle ch).pendingG = p.pendingG ∧ (p.flipToggle ch).pendingE = p.pendingE ∧
    (p.flipToggle ch).budget = p.budget ∧ (p.flipToggle ch).gap = p.gap ∧ (p.flipToggle ch).gauge = p.gauge := by
  unfold Cport.flipToggle
  split
  · exact p.setToggle_frame ch _
  · simp

/-- A SENT frame turns the toggle of its channel, and a pending toggle of the channel then takes its place (R173,
R174). -/
theorem Cport.sent_toggles (p : Cport) (ch : Channel) :
    ((p.flipToggle ch).settleToggle ch).carrying = p.carrying ∧ ((p.flipToggle ch).settleToggle ch).tx = p.tx ∧
    ((p.flipToggle ch).settleToggle ch).budget = p.budget ∧
    ((p.flipToggle ch).settleToggle ch).gap = p.gap ∧ ((p.flipToggle ch).settleToggle ch).gauge = p.gauge ∧
    ((p.flipToggle ch).settleToggle ch).pendingG = (if ch = .g then none else p.pendingG) ∧
    ((p.flipToggle ch).settleToggle ch).pendingE = (if ch = .e then none else p.pendingE) := by
  obtain ⟨a1, a2, a3, a4, a5, a6, a7⟩ := p.flipToggle_frame ch
  obtain ⟨b1, b2, b3, b4, b5, b6, b7, -⟩ := (p.flipToggle ch).settleToggle_frame ch
  exact ⟨b1.trans a1, b2.trans a2, b3.trans a5, b4.trans a6, b5.trans a7, by rw [b6, a3], by rw [b7, a4]⟩

/-- The toggles play no part in what a channel holds after its carried frame left it. -/
theorem Cport.settled_letGo_chan (p : Cport) (ch d : Channel) :
    ((p.settleToggle ch).letGo ch).chan d = (p.letGo ch).chan d := by
  rw [Cport.letGo_chan, Cport.letGo_chan]
  by_cases hd : d = ch
  · subst hd; simp
  · simp [hd]

theorem Cport.sent_chan (p : Cport) (ch d : Channel) : (p.sent ch).chan d = (p.letGo ch).chan d := by
  have hsent : (p.sent ch).chan d = (((p.flipToggle ch).settleToggle ch).letGo ch).chan d := by cases d <;> rfl
  rw [hsent, Cport.settled_letGo_chan, Cport.letGo_chan, Cport.letGo_chan]
  by_cases hd : d = ch
  · subst hd; simp
  · simp [hd]

/-- A full P is one frame shorter without its oldest frame that is not carried (R164). -/
theorem Cport.pushOutP_length {p : Cport} (h : 2 ≤ p.p.queue.length) : p.pushOutP.length = p.p.queue.length - 1 := by
  unfold Cport.pushOutP
  split
  · simp only [List.length_append, List.length_take, List.length_drop]
    omega
  · simp

namespace Cport.Sound
variable {p q : Cport}

/-- Soundness reads the channels, the transmitter, the pending toggles and the budget. -/
theorem congr (h : p.Sound) (hch : ∀ ch, q.chan ch = p.chan ch) (hcar : q.carrying = p.carrying) (htx : q.tx = p.tx)
    (hg : q.pendingG = p.pendingG) (he : q.pendingE = p.pendingE) (hb : q.budget ≤ 65535) : q.Sound where
  channels ch := by
    obtain ⟨h1, h2, h3⟩ := h.channels ch
    exact ⟨by rw [hch]; exact h1, by rw [hch, hcar]; exact h2, by rw [hch, hcar]; exact h3⟩
  tx := by rw [htx, hcar]; exact h.tx
  pendingG := by rw [hg, hcar]; exact h.pendingG
  pendingE := by rw [he, hcar]; exact h.pendingE
  budget := hb

/-- One channel replaced by one that keeps the rules of its queue. -/
theorem setChan (h : p.Sound) {ch : Channel} {x : ChannelState} (hcap : x.queue.length ≤ ch.capacity)
    (hcar : p.carrying = some ch → x.queue ≠ [])
    (hb : x.blocked = true → x.queue.length ≤ if p.carrying = some ch then 1 else 0) : (p.setChan ch x).Sound where
  channels d := by
    by_cases hd : d = ch
    · subst hd
      exact ⟨by simpa using hcap, by simpa using hcar, by simpa using hb⟩
    · obtain ⟨h1, h2, h3⟩ := h.channels d
      exact ⟨by simpa [hd] using h1, by simpa [hd] using h2, by simpa [hd] using h3⟩
  tx := by simpa using h.tx
  pendingG := by simpa using h.pendingG
  pendingE := by simpa using h.pendingE
  budget := by simpa using h.budget

/-- A mark changed, and with BLOCKED newly set only on a flushed queue. -/
theorem setMarks (h : p.Sound) (ch : Channel) (held blocked : Bool)
    (hb : blocked = true → (p.chan ch).blocked = true) :
    (p.setChan ch { p.chan ch with held := held, blocked := blocked }).Sound :=
  h.setChan (h.channels ch).capacity (h.channels ch).carried fun hx => (h.channels ch).blocked (hb hx)

/-- What a flush leaves of a queue. -/
theorem flushed_queue_length (h : p.Sound) (ch : Channel) :
    (if p.carrying = some ch then (p.chan ch).queue.take 1 else []).length ≤ if p.carrying = some ch then 1 else 0 := by
  split
  · exact List.length_take_le _ _
  · exact le_refl _

theorem setFlushed (h : p.Sound) (ch : Channel) (held blocked : Bool) :
    (p.setChan ch { queue := if p.carrying = some ch then (p.chan ch).queue.take 1 else [], held := held,
                    blocked := blocked }).Sound := by
  have hlen := h.flushed_queue_length ch
  refine h.setChan (le_trans hlen ?_) (fun hc => ?_) (fun _ => hlen)
  · split <;> cases ch <;> decide
  · have := (h.channels ch).carried hc
    simpa [hc] using this

theorem flush (h : p.Sound) (ch : Channel) : (p.flush ch).Sound := h.setFlushed ch _ _

theorem mark (h : p.Sound) (ch : Channel) :
    (p.holdChan ch).Sound ∧ (p.releaseChan ch).Sound ∧ (p.unblockChan ch).Sound ∧ (p.blockChan ch).Sound := by
  refine ⟨h.setMarks ch _ _ id, h.setMarks ch _ _ id, h.setMarks ch _ _ (by simp), ?_⟩
  by_cases hb : (p.chan ch).blocked = true
  · rw [Cport.blockChan_of_blocked hb]
    exact h
  · rw [Cport.blockChan_of_unmarked (by simpa using hb)]
    exact h.setFlushed ch _ _

/-- A channel that grows by one frame while it has room and is not BLOCKED. -/
theorem push (h : p.Sound) {ch : Channel} (f : Frame) (hroom : (p.chan ch).queue.length < ch.capacity)
    (hb : (p.chan ch).blocked = false) : (p.setChan ch ((p.chan ch).push f)).Sound := by
  refine h.setChan ?_ (fun _ => by simp [ChannelState.push]) (fun hx => ?_)
  · simpa [ChannelState.push] using hroom
  · simp [ChannelState.push, hb] at hx

theorem takeFrom (h : p.Sound) {ch : Channel} (hr : p.ready = true) (he : p.eligible = some ch) :
    (p.takeFrom ch).Sound := by
  obtain ⟨hcar, hsil⟩ : p.carrying = none ∧ p.tx.silence = none := by
    simpa [Cport.ready, Option.isNone_iff_eq_none] using hr
  have hopen := List.find?_some he
  simp only [ChannelState.isOpen, Bool.and_eq_true, Bool.not_eq_true', List.isEmpty_eq_false_iff] at hopen
  obtain ⟨⟨-, hblk⟩, hne⟩ := hopen
  have hlen : (mapHead (stampFrame (p.toggle ch)) (p.chan ch).queue).length = (p.chan ch).queue.length := by
    cases (p.chan ch).queue <;> rfl
  have hne' : mapHead (stampFrame (p.toggle ch)) (p.chan ch).queue ≠ [] := by
    intro h0
    rw [h0] at hlen
    exact hne (List.eq_nil_of_length_eq_zero hlen.symm)
  have hpend : ∀ (b : Option Bool) (d : Channel), (b.isSome = true → p.carrying = some d) → b.isSome = true →
      False := by
    intro b d hd hb
    rw [hcar] at hd
    cases hd hb
  have hset := h.setChan (ch := ch)
    (x := { p.chan ch with queue := mapHead (stampFrame (p.toggle ch)) (p.chan ch).queue })
    (by rw [hlen]; exact (h.channels ch).capacity) (by simp [hcar]) (by simp [hblk])
  exact
    { channels := fun d => by
        obtain ⟨h1, -, h3⟩ := hset.channels d
        rw [← Cport.takeFrom_chan] at h1 h3
        refine ⟨h1, fun hd => ?_, fun hd => ?_⟩
        · cases Option.some.inj hd
          rw [Cport.takeFrom_chan, Cport.chan_setChan_self]
          exact hne'
        · have h0 := h3 hd
          simp only [Cport.setChan_carrying, hcar, reduceCtorEq, if_false, Nat.le_zero_eq] at h0
          show List.length _ ≤ _
          exact le_trans (le_of_eq h0) (Nat.zero_le _)
      tx := ⟨by simpa [Cport.takeFrom] using h.tx.failed, by simpa [Cport.takeFrom] using h.tx.drops,
          by simp [Cport.takeFrom, hsil]⟩
      pendingG := fun hb => (hpend _ _ h.pendingG (by simpa [Cport.takeFrom] using hb)).elim
      pendingE := fun hb => (hpend _ _ h.pendingE (by simpa [Cport.takeFrom] using hb)).elim
      budget := by simpa [Cport.takeFrom] using h.budget }

/-- The carried frame leaves its queue: the transmitter is FREE and no toggle is pending. -/
theorem letGo (h : p.Sound) {ch : Channel} (hc : p.carrying = some ch) (hch : ∀ d, q.chan d = (p.letGo ch).chan d)
    (hcar : q.carrying = none) (htx : q.tx.Sound false) (hg : q.pendingG = if ch = .g then none else p.pendingG)
    (he : q.pendingE = if ch = .e then none else p.pendingE) (hb : q.budget = p.budget) : q.Sound where
  channels d := by
    have hd := h.channels d
    have hq : (q.chan d).queue.length ≤ (p.chan d).queue.length - (if ch = d then 1 else 0) ∧
        (q.chan d).blocked = (p.chan d).blocked := by
      rw [hch, Cport.letGo_chan]
      by_cases hcd : d = ch
      · subst hcd
        simp [ChannelState.pop]
      · simp [hcd, Ne.symm hcd]
    refine ⟨le_trans hq.1 (le_trans (Nat.sub_le _ _) hd.capacity), by simp [hcar], fun hx => ?_⟩
    have hlen := hd.blocked (hq.2 ▸ hx)
    simp only [hc, Option.some.injEq] at hlen
    have := hq.1
    split at hlen <;> simp_all
  tx := by rw [hcar]; exact htx
  pendingG := fun hx => by
    rw [hg] at hx
    split at hx
    · cases hx
    · exact absurd (hc.symm.trans (h.pendingG hx)) (by simpa using ‹¬ ch = _›)
  pendingE := fun hx => by
    rw [he] at hx
    split at hx
    · cases hx
    · exact absurd (hc.symm.trans (h.pendingE hx)) (by simpa using ‹¬ ch = _›)
  budget := by rw [hb]; exact h.budget

theorem sent (h : p.Sound) {ch : Channel} (hc : p.carrying = some ch) : (p.sent ch).Sound := by
  obtain ⟨-, -, hb, -, -, hg, he⟩ := p.sent_toggles ch
  have hsil : p.tx.silence.isSome ≠ true := fun hs => by simpa [hc] using h.tx.silent hs
  refine h.letGo hc (p.sent_chan ch) rfl ⟨by simp [Cport.sent], by simp [Cport.sent], by simp⟩ ?_ ?_ ?_
  · simpa [Cport.sent, Cport.letGo] using hg
  · simpa [Cport.sent, Cport.letGo] using he
  · simpa [Cport.sent, Cport.letGo] using hb

/-- A display frame offered to E. -/
theorem offers (h : p.Sound) (fs : List Frame) (he : q = { p with e := { p.e with queue := p.e.afterOffers fs } }) :
    q.Sound := by
  subst he
  have hE := h.channels .e
  refine h.setChan (ch := .e) (x := { p.e with queue := p.e.afterOffers fs }) ?_ (fun hc => ?_) (fun hb => ?_)
  · exact ChannelState.afterOffers_length_le _ _ hE.capacity
  · exact ChannelState.afterOffers_ne_nil _ (hE.carried hc)
  · show (p.e.afterOffers fs).length ≤ _
    rw [ChannelState.afterOffers_blocked (x := p.e) hb]
    exact hE.blocked hb

end Cport.Sound

/-! ### The transmitters' counts -/

theorem TxState.Sound.dropped {x : TxState} {b : Bool} (h : x.Sound b) (t : Time) : (x.dropped t).Sound false := by
  unfold TxState.dropped
  split
  · rename_i hd
    exact ⟨by simp, hd, by simp⟩
  · exact ⟨by simp, by simp, by simp⟩

/-! ### The state -/

namespace State.PortsSound
variable {s t : State}

theorem congr (hc : t.cport = s.cport) (hm : t.mport = s.mport) (h : s.PortsSound) : t.PortsSound := by
  unfold State.PortsSound
  rw [hc, hm]
  exact h

theorem modCport {f : Cport → Cport} (h : s.PortsSound) (hf : (f s.cport).Sound) : (s.modCport f).PortsSound :=
    ⟨hf, h.2⟩

theorem modMport {f : Mport → Mport} (h : s.PortsSound) (hf : (f s.mport).Sound) : (s.modMport f).PortsSound :=
    ⟨h.1, hf⟩

theorem emits (h : s.PortsSound) (he : s.Emits t) (hm : t.mport = s.mport) : t.PortsSound := by
  obtain ⟨fs, -, hc, -⟩ := he
  exact ⟨h.1.offers fs hc, hm ▸ h.2⟩

/-- A change of marks, toggles, budget, gap flag and gauge timer that leaves the queues. -/
theorem gauge (h : s.PortsSound) (x : Option Time) : (s.modCport fun p => { p with gauge := x }).PortsSound :=
  h.modCport (h.1.congr (fun ch => by cases ch <;> rfl) rfl rfl rfl rfl h.1.budget)

theorem offerP (h : s.PortsSound) (f : Frame) : (s.offerP f).PortsSound := by
  have hp := h.1.channels .p
  unfold State.offerP
  split
  · exact h
  · rename_i hopen
    have hb : s.cport.p.blocked = false := by simpa using (not_or.mp hopen).2
    split
    · exact h.modCport (h.1.push (ch := .p) f ‹_› hb)
    · refine h.modCport (h.1.setChan (ch := .p) (x := { s.cport.p with queue := s.cport.pushOutP ++ [f] }) ?_ (by simp)
        (fun hx => by simp [hb] at hx))
      rename_i hfull
      have hcap : s.cport.p.queue.length ≤ 32 := hp.capacity
      have hlen : 32 ≤ s.cport.p.queue.length := Nat.le_of_not_lt hfull
      rw [List.length_append, Cport.pushOutP_length (by omega), List.length_singleton]
      simp only [Channel.capacity]
      omega

theorem offerC (h : s.PortsSound) (f : Frame) : (s.offerC f).PortsSound := by
  have hbud : budgetAfter s.cport.budget ≤ 65535 := by
    have := h.1.budget
    unfold budgetAfter
    split <;> omega
  unfold State.offerC
  split
  · exact h
  · rename_i hb
    dsimp only
    split
    · rename_i hlt
      have hpush := h.1.push (ch := .c) f hlt (by simpa [Cport.chan] using hb)
      split
      · refine State.PortsSound.emits (s := State.modCport _ (State.modCport _ s)) ?_ ((State.Emits.refl _).offerE _)
          (by simp [State.noticeCaptureDone])
        refine ⟨?_, h.2⟩
        exact (hpush.setMarks .c true s.cport.c.blocked
            (fun hx => by simpa [ChannelState.push, Cport.setChan, Cport.chan] using hx)).congr
          (fun ch => by cases ch <;> rfl) rfl rfl rfl rfl hbud
      · exact h.modCport (hpush.congr (fun ch => by cases ch <;> rfl) rfl rfl rfl rfl hbud)
    · exact h.modCport (h.1.congr (fun ch => by cases ch <;> rfl) rfl rfl rfl rfl h.1.budget)

theorem offerG (h : s.PortsSound) (f : Frame) : (s.offerG f).PortsSound := by
  unfold State.offerG
  split
  · exact h
  · rename_i hb
    split
    · rename_i he
      exact h.modCport (h.1.push (ch := .g) f (by simp [Cport.chan, he, Channel.capacity])
          (by simpa [Cport.chan] using hb))
    · split
      · exact h
      · exact h.modCport (h.1.setChan (ch := .g) (x := { s.cport.g with queue := [f] }) (by simp [Channel.capacity])
          (by simp)
          (fun hx => absurd hx hb))

theorem respond (h : s.PortsSound) {p : Port} (hr : s.hasRoom p = true) (code tag : Byte) (st : Status)
    (results : List Byte) : (s.respond p code tag st results).PortsSound := by
  cases p
  · by_cases hb : s.cport.m.blocked = true
    · rw [State.respond_cab_blocked hb]
      exact h
    · rw [State.respond_cab_open (by simpa using hb)]
      exact h.modCport (h.1.push (ch := .m) _ (of_decide_eq_true hr) (by simpa [Cport.chan] using hb))
  · rw [State.respond_machine]
    have hroom : s.mport.queue.length < 4 := of_decide_eq_true hr
    exact h.modMport ⟨by simpa using hroom, by simp, h.2.tx⟩

theorem discarded (h : s.PortsSound) {p : Port} (hc : s.carries p = true) (t : Time) :
    ((s.discardCarried p).setTx p ((s.tx p).dropped t)).PortsSound := by
  cases p
  · obtain ⟨ch, hch⟩ := Option.isSome_iff_exists.mp hc
    obtain ⟨-, -, hb, -, -, hg, he, -⟩ := s.cport.settleToggle_frame ch
    simp only [State.discardCarried, hch, State.setTx, State.tx]
    refine ⟨h.1.letGo (q := { (s.cport.settleToggle ch).letGo ch with tx := s.cport.tx.dropped t }) hch
        (fun d => ?_) rfl
      (h.1.tx.dropped t) (by simpa [Cport.letGo] using hg) (by simpa [Cport.letGo] using he)
      (by simpa [Cport.letGo] using hb), h.2⟩
    have hq : ({ (s.cport.settleToggle ch).letGo ch with tx := s.cport.tx.dropped t } : Cport).chan d =
        ((s.cport.settleToggle ch).letGo ch).chan d := by cases d <;> rfl
    rw [hq, Cport.settled_letGo_chan]
  · have hm := h.2
    refine ⟨h.1, ⟨?_, by simp [State.discardCarried, State.setTx], ?_⟩⟩
    · exact le_trans (by simp [State.discardCarried, State.setTx]) hm.capacity
    · simpa [State.discardCarried, State.setTx, State.tx] using hm.tx.dropped t

theorem park (h : s.PortsSound) (t : Time) : (s.park t).PortsSound := by
  have hquiet : ∀ u : State, s.Emits u → u.mport = s.mport → (u.modCport Cport.park).PortsSound := fun u hu hm => by
    have hs := h.emits hu hm
    exact ⟨((hs.1.flush .g).flush .p).congr (fun ch => by cases ch <;> rfl) rfl rfl rfl rfl
      ((hs.1.flush .g).flush .p).budget, hs.2⟩
  unfold State.park
  refine State.PortsSound.emits (hquiet _ ?_ (by simp)) ((State.Emits.refl _).applyDeferred t) (by simp)
  have hpre : s.Emits (((s.modDin fun d => { d with power := .parked }).modFcl Fcl.clearHolding).parkSlots) :=
    (State.Emits.refl s).frame (by simp) (by simp)
  exact ((hpre.endWindow .parked t).interruptRun .parked t).frame rfl rfl

theorem restartGauge (h : s.PortsSound) (t : Time) : (s.restartGauge t).PortsSound := h.gauge _

theorem wake (h : s.PortsSound) (t : Time) : (s.wake t).PortsSound := by
  have hnotice : (s.noticeKeyOn t).PortsSound := h.emits ((State.Emits.refl s).offerE _) (by simp)
  unfold State.wake
  exact State.PortsSound.restartGauge (hnotice.congr (by simp) (by simp)) t

theorem setTx (h : s.PortsSound) (p : Port) {x : TxState} (hx : x.Sound (s.carries p)) : (s.setTx p x).PortsSound := by
  cases p
  · exact ⟨⟨fun ch => by obtain ⟨h1, h2, h3⟩ := h.1.channels ch; cases ch <;> exact ⟨h1, h2, h3⟩, hx, h.1.pendingG,
      h.1.pendingE, h.1.budget⟩, h.2⟩
  · exact ⟨h.1, ⟨h.2.capacity, h.2.carried, hx⟩⟩

theorem tx (h : s.PortsSound) (p : Port) : (s.tx p).Sound (s.carries p) := by
  cases p
  · exact h.1.tx
  · exact h.2.tx

theorem toggle (h : s.PortsSound) {ch : Channel} (hch : ch.hasToggle = true) (v : Bool) :
    (s.modCport fun p => p.forceToggle ch v).PortsSound := by
  refine h.modCport ?_
  unfold Cport.forceToggle
  split
  · rename_i hc
    cases ch <;> simp only [Channel.hasToggle, Bool.false_eq_true] at hch
    · exact ⟨fun d => by obtain ⟨h1, h2, h3⟩ := h.1.channels d; cases d <;> exact ⟨h1, h2, h3⟩, h.1.tx, fun _ => hc,
        h.1.pendingE, h.1.budget⟩
    · exact ⟨fun d => by obtain ⟨h1, h2, h3⟩ := h.1.channels d; cases d <;> exact ⟨h1, h2, h3⟩, h.1.tx, h.1.pendingG,
        fun _ => hc, h.1.budget⟩
  · obtain ⟨h1, h2, h3, h4, h5, -⟩ := s.cport.setToggle_frame ch v
    exact h.1.congr (fun d => by simp) h1 h2 h3 h4 (by rw [h5]; exact h.1.budget)

theorem cold (p : Cport) (hp : p = { Cport.cold with gauge := p.gauge }) : p.Sound := by
  rw [hp]
  exact
    { channels := fun ch => by cases ch <;> exact ⟨Nat.zero_le _, (fun hc => nomatch hc), (fun hb => nomatch hb)⟩
      tx := ⟨Nat.zero_lt_succ _, Nat.zero_lt_succ _, fun hs => nomatch hs⟩
      pendingG := fun hs => nomatch hs
      pendingE := fun hs => nomatch hs
      budget := Nat.zero_le _ }

theorem mportCold : Mport.cold.Sound := ⟨by decide, by decide, by decide, by decide, by decide⟩

end State.PortsSound

open State (Emits) in
/-- Each event keeps both ports sound. -/
theorem keptPortsSound : Kept EveryRow State.PortsSound where
  waiting _ _ _ h := h
  coldReset _ _ _ := ⟨State.PortsSound.cold _ rfl, State.PortsSound.mportCold⟩
  tick _ _ h := h
  offerE f s h := h.emits ((Emits.refl s).offerE f) (by simp)
  latch a s h := h.emits ((Emits.refl s).latch a) (by simp)
  offerP f _ h := h.offerP f
  offerC f _ h := h.offerC f
  respond _ _ _ _ _ _ hr h := h.respond hr _ _ _ _
  free _ _ h := h
  handOff _ b t i s h := h.emits ((Emits.refl s).handOff b t i) (by simp)
  hold _ _ _ _ _ h := h
  drained _ _ h := h
  refill _ _ _ _ _ _ _ h := h
  fresh _ _ _ _ _ h := h
  loss r x s _ h := h.emits ((Emits.refl s).slotLost r x) (by simp [State.slotLost]; split <;> simp)
  timeout x s h := h.emits (((Emits.refl s).endWindow _ x).applyDeferred x) (by simp)
  gauge x s _ h := by
    unfold State.gaugeExpiry
    exact State.PortsSound.offerG (h.gauge _) _
  offerBoom _ x y s h := h.emits (Emits.offerBoom (by exact (Emits.refl s).frame rfl rfl) x) (by simp)
  phases _ _ _ _ h := h
  phaseError qa qb s h := h.emits ((Emits.refl s).phaseError qa qb) (by simp)
  index _ h := h
  line _ _ _ _ h := h
  dump t s h := h.emits (((Emits.refl s).dumpEvent t).applyDeferred t) (by simp)
  park t _ _ h := h.park t
  wake t _ _ h := h.wake t
  service s h := h.congr (by simp) (by simp)
  arbiterTake _ _ hr he h := h.modCport (h.1.takeFrom hr he)
  machineTake _ _ hs hq h := ⟨h.1, ⟨h.2.capacity, fun _ => hq, ⟨h.2.tx.failed, h.2.tx.drops, by simp [hs]⟩⟩⟩
  cabSent _ _ hc h := h.modCport (h.1.sent hc)
  machineSent s hc h := by
    have hsil : s.mport.tx.silence.isSome ≠ true := fun hs => by simpa [hc] using h.2.tx.silent hs
    exact ⟨h.1, ⟨le_trans (by simp [Mport.sent]) h.2.capacity, by simp [Mport.sent], ⟨by simp [Mport.sent],
      by simp [Mport.sent], by simp [Mport.sent]⟩⟩⟩
  failed p _ hlt h := h.setTx p ⟨hlt, (h.tx p).drops, (h.tx p).silent⟩
  discarded _ t _ hc h := h.discarded hc t
  silenceEnd p _ h := h.setTx p ⟨(h.tx p).failed, (h.tx p).drops, by simp⟩
  reported page item part s h := by
    obtain ⟨hm, hc⟩ := State.clearReported_ports page item part s
    exact h.congr hc hm
  mode _ _ _ m s _ h := h.emits ((Emits.refl s).requestMode m) (State.requestMode_ports m s).1
  openLoad _ _ _ _ _ _ _ _ h := h
  loadData _ _ _ _ _ _ h := h
  failLoad _ _ _ h := h
  freeLoad _ h := h
  loadFat _ _ _ _ h := h
  loadSxt _ _ _ _ _ h := h.congr (by simp [State.loadSxt]) (by simp [State.loadSxt])
  loadRecord _ r s _ _ _ h := State.PortsSound.restartGauge (h.congr (by simp) (by simp)) _
  loadCurve _ _ c xs s _ _ _ _ _ h :=
    h.emits (Emits.writeCurve (t := s.setAssembly none) ((Emits.refl s).frame rfl rfl) c xs _)
        (by simp [State.setAssembly])
  loadBands _ _ _ _ h := h
  loadMaterials _ _ _ _ _ _ h := h
  loadLines _ _ _ _ h := h
  tare _ _ h := h
  cancelLast t s h := h.emits ((Emits.refl s).cancelLast t) (by simp)
  nextTruck b t s h := h.emits ((Emits.refl s).nextTruck b t) (by simp)
  shiftClose _ _ h := h
  target _ _ t s _ h := h.emits (Emits.evalOverload (by exact (Emits.refl s).frame rfl rfl) t) (by simp)
  material _ _ _ _ h := h
  holdChan ch _ h := h.modCport (h.1.mark ch).1
  releaseChan ch _ h := h.modCport (h.1.mark ch).2.1
  unblockChan ch _ h := h.modCport (h.1.mark ch).2.2.1
  blockChan ch _ h := h.modCport (h.1.mark ch).2.2.2
  toggle _ v _ hch h := h.toggle hch v
  capture _ v _ h := h.modCport (h.1.congr (fun ch => by cases ch <;> rfl) rfl rfl rfl rfl (Nat.le_of_lt_succ v.isLt))
  notices _ _ _ h := h
  clearAlerts _ _ h := h
  node _ _ _ h := h
  restart _ s h := by
    refine ⟨State.PortsSound.cold _ ?_, ?_⟩
    · rfl
    · exact State.PortsSound.mportCold

/-- Settles O7: every event keeps both ports sound. -/
theorem portsStaySound : Obligations.PortsStaySound := by
  unfold Obligations.PortsStaySound
  exact fun _ _ h hs => keptPortsSound.step h hs

end Sys2Proof.Machine
end

section
/-! ## The end of a window, a change of mode and a deferred change: what each leaves -/
namespace Sys2Proof.Machine

/-! ### The end of a window (R73, R77, R82, R110) -/

theorem State.endWindow_of_none {s : State} (h : s.wen.window = none) (e : Ending) (t : Time) :
    s.endWindow e t = s := by
  simp [State.endWindow, h]

theorem Wen.result_kind (x : Wen) (w : Window) (e : Ending) (t : Time) :
    (x.result w e t).kind = if x.tareArmed then .tarePass else .bucket := by
  unfold Wen.result
  dsimp only
  split
  · rfl
  · rfl
  · split <;> rfl

/-- What a tare pass leaves in WEN: tare armed cleared, and the new tare if the pass gives one (R82). -/
theorem State.applyTarePass_wen (r : WindowResult) (s : State) :
    (s.applyTarePass r).wen = { s.wen with tareArmed := false, tare := r.newTare.getD s.wen.tare } := by
  unfold State.applyTarePass
  dsimp only
  split
  · rename_i m hm
    simp [hm]
  · rename_i hm
    split <;> simp [hm]

/-- What the end of an OPEN window leaves in WEN. -/
theorem State.endWindow_wen {s : State} {w : Window} (h : s.wen.window = some w) (e : Ending) (t : Time) :
    (s.endWindow e t).wen = { s.wen with
      window := none, lastResult := some (s.wen.result w e t), tareArmed := false,
      tare := if s.wen.tareArmed then (s.wen.result w e t).newTare.getD s.wen.tare else s.wen.tare } := by
  unfold State.endWindow
  simp only [h, Wen.result_kind]
  cases ha : s.wen.tareArmed
  · simp [ha]
  · simp [State.applyTarePass_wen]

/-- CYT after the end of an OPEN window: it has taken the result (R110 to R113). -/
theorem State.endWindow_cyt {s : State} {w : Window} (h : s.wen.window = some w) (e : Ending) (t : Time) :
    (s.endWindow e t).cyt = s.cyt.take (s.wen.result w e t) := by
  unfold State.endWindow
  simp only [h]
  split <;> simp

@[simp] theorem State.endWindow_window (e : Ending) (t : Time) (s : State) : (s.endWindow e t).wen.window = none := by
  cases h : s.wen.window with
  | none => rw [State.endWindow_of_none h, h]
  | some w => rw [State.endWindow_wen h]

/-- What CYT can do with a result: nothing, or in LIFT or CARRY it has it and is in LIFT or CARRY. -/
theorem Cyt.take_cases (c : Cyt) (r : WindowResult) :
    c.take r = c ∨ (c.state = .lift ∨ c.state = .carry) ∧ ((c.take r).state = .lift ∨ (c.take r).state = .carry) ∧
      (c.take r).start = c.start ∧ (c.take r).tipArmed = c.tipArmed ∧ (c.take r).lastCycle = c.lastCycle := by
  unfold Cyt.take
  split
  · rename_i hu
    have hstate : c.state = .lift ∨ c.state = .carry := by
      simp only [Cyt.uses, Bool.and_eq_true, Bool.or_eq_true, decide_eq_true_eq] at hu
      exact hu.1.1
    have hafter : cycleAfterResult c.state r.ending = .lift ∨ cycleAfterResult c.state r.ending = .carry := by
      unfold cycleAfterResult
      split
      · exact .inr rfl
      · exact hstate
    right
    split <;> exact ⟨hstate, hafter, rfl, rfl, rfl⟩
  · exact .inl rfl

/-- What the latest sample leaves in WEN besides (log entry 11). -/
@[simp] theorem State.noteLatest_tare (t : Time) (s : State) :
    (s.noteLatest t).wen.tare = s.wen.tare ∧ (s.noteLatest t).wen.tareArmed = s.wen.tareArmed ∧
    (s.noteLatest t).wen.prevTheta = s.wen.prevTheta ∧ (s.noteLatest t).wen.lastResult = s.wen.lastResult := by
  unfold State.noteLatest
  split <;> simp

@[simp] theorem State.setCal_wen (c : Calibration) (s : State) :
    (s.setCal c).wen = { s.wen with calibration := some c } := rfl

/-- A curve written changes that curve alone in WEN. -/
@[simp] theorem State.writeCurve_wen (c : CurveName) (v : List Int) (t : Time) (s : State) :
    (s.writeCurve c v t).wen = s.wen.setCurve c v := by
  unfold State.writeCurve
  dsimp only
  split <;> simp

@[simp] theorem Wen.setCurve_frame (w : Wen) (c : CurveName) (v : List Int) :
    (w.setCurve c v).record = w.record ∧ (w.setCurve c v).bands = w.bands ∧ (w.setCurve c v).window = w.window ∧
    (w.setCurve c v).prevTheta = w.prevTheta ∧ (w.setCurve c v).lastResult = w.lastResult ∧
    (w.setCurve c v).tare = w.tare ∧ (w.setCurve c v).tareArmed = w.tareArmed ∧
    (w.setCurve c v).latest = w.latest ∧ (w.setCurve c v).calibration = w.calibration := by
  cases c <;> exact ⟨rfl, rfl, rfl, rfl, rfl, rfl, rfl, rfl, rfl⟩

/-! ### A change of mode (R200) -/

theorem State.changeMode_wen (m : ModeTarget) (cause : NoticeCause) (t : Time) (s : State) :
    (s.changeMode m cause t).wen = { s.wen with
      prevTheta := if m.mode = .run then none else s.wen.prevTheta
      tareArmed := if s.mgt.mode = .run ∧ m.mode ≠ .run then false else s.wen.tareArmed
      latest := none, calibration := m.calibration s.wen.gridPoints } := by
  unfold State.changeMode
  by_cases h1 : s.mgt.mode = .run <;> by_cases h2 : m.mode = .run <;>
    simp [h1, h2, State.leaveRun, State.enterRun, Wen.gridPoints]

theorem State.changeMode_cyt (m : ModeTarget) (cause : NoticeCause) (t : Time) (s : State) :
    (s.changeMode m cause t).cyt =
      if s.mgt.mode = .run ∧ m.mode ≠ .run then s.cyt.toIdle
      else if m.mode = .run then { s.cyt with tipArmed := false } else s.cyt := by
  unfold State.changeMode
  by_cases h1 : s.mgt.mode = .run <;> by_cases h2 : m.mode = .run <;>
    simp [h1, h2, State.leaveRun, State.enterRun]

@[simp] theorem State.changeMode_mode (m : ModeTarget) (cause : NoticeCause) (t : Time) (s : State) :
    (s.changeMode m cause t).mgt.mode = m.mode := by
  simp [State.changeMode]

@[simp] theorem State.setDeferred_frame (d : Option Deferred) (s : State) :
    (s.setDeferred d).time = s.time ∧ (s.setDeferred d).baud = s.baud ∧ (s.setDeferred d).mport = s.mport ∧
    (s.setDeferred d).fcl = s.fcl ∧ (s.setDeferred d).sig = s.sig ∧ (s.setDeferred d).din = s.din ∧
    (s.setDeferred d).wen = s.wen ∧ (s.setDeferred d).cyt = s.cyt ∧ (s.setDeferred d).lac = s.lac ∧
    (s.setDeferred d).cport = s.cport ∧ (s.setDeferred d).mgt = { s.mgt with deferred := d } ∧
    (s.setDeferred d).freeCount = s.freeCount ∧ (s.setDeferred d).pending = s.pending :=
  ⟨rfl, rfl, rfl, rfl, rfl, rfl, rfl, rfl, rfl, rfl, rfl, rfl, rfl⟩

/-- What a deferred change can do: nothing while none is stored or a window is OPEN; else it is removed, and made
unless a condition of CALIBRATE fails (R199). -/
theorem State.applyDeferred_cases (t : Time) (s : State) :
    (s.mgt.deferred = none ∨ s.wen.window.isSome = true) ∧ s.applyDeferred t = s ∨
    s.wen.window = none ∧ ∃ d, s.mgt.deferred = some d ∧
      ((d = .config ∨ s.calibrateBlock = none) ∧
        s.applyDeferred t = (s.setDeferred none).changeMode d.target .deferred t ∨
      s.calibrateBlock ≠ none ∧ s.applyDeferred t = s.setDeferred none) := by
  unfold State.applyDeferred
  cases hd : s.mgt.deferred with
  | none => exact .inl ⟨.inl rfl, rfl⟩
  | some d =>
    cases hw : s.wen.window with
    | some w => exact .inl ⟨.inr rfl, rfl⟩
    | none =>
      refine .inr ⟨rfl, d, rfl, ?_⟩
      cases d with
      | config => exact .inl ⟨.inl rfl, rfl⟩
      | calibrate c r =>
        by_cases hb : s.calibrateBlock = none
        · exact .inl ⟨.inr hb, by simp [hb]; rfl⟩
        · exact .inr ⟨hb, by simp [hb]; rfl⟩

/-! ### The interruption of a calibration (R95, R96) -/

/-- A calibration after a loss or the entry to PARKED: its run is ARMED with no start sample, and the values of a run in
RISING are taken out of the sums. -/
def Calibration.interrupted (c : Calibration) : Calibration :=
  match c.run with
  | .rising _ _ _ values => c.broke values
  | .armed _ => { c with run := .armed none }

theorem Calibration.interrupted_run (c : Calibration) : c.interrupted.run = .armed none := by
  unfold Calibration.interrupted
  split <;> rfl

/-- A calibration after a break: a run in RISING goes back to ARMED; a run in ARMED keeps its start sample. -/
def Calibration.afterBreak (c : Calibration) : Calibration :=
  match c.run with
  | .rising _ _ _ values => c.broke values
  | .armed _ => c

theorem Wen.withCalibration_self {w : Wen} {c : Option Calibration} (h : w.calibration = c) :
    { w with calibration := c } = w := by
  subst h
  rfl

theorem State.breakRun_wen (reason : BreakReason) (t : Time) (s : State) :
    (s.breakRun reason t).wen = { s.wen with calibration := s.wen.calibration.map Calibration.afterBreak } := by
  unfold State.breakRun
  cases hc : s.wen.calibration with
  | none => exact (Wen.withCalibration_self hc).symm
  | some c =>
    cases hr : c.run with
    | armed start => simp only [hr, Option.map_some, Calibration.afterBreak, Wen.withCalibration_self hc]
    | rising th f top values => simp [Calibration.afterBreak, hr]

theorem State.interruptRun_wen (reason : BreakReason) (t : Time) (s : State) :
    (s.interruptRun reason t).wen = { s.wen with calibration := s.wen.calibration.map Calibration.interrupted } := by
  unfold State.interruptRun
  cases hc : s.wen.calibration with
  | none => exact (Wen.withCalibration_self hc).symm
  | some c =>
    cases hr : c.run with
    | armed start => simp [Calibration.interrupted, hr]
    | rising th f top values => simp [State.breakRun_wen, Calibration.afterBreak, Calibration.interrupted, hc, hr]

/-! ### Parking before its deferred change (R154) -/

theorem State.endWindow_wen_congr {s t : State} (h : t.wen = s.wen) (e : Ending) (x : Time) :
    (t.endWindow e x).wen = (s.endWindow e x).wen := by
  cases hw : s.wen.window with
  | none => rw [State.endWindow_of_none hw, State.endWindow_of_none (by rw [h, hw]), h]
  | some w => rw [State.endWindow_wen hw, State.endWindow_wen (by rw [h, hw]), h]

/-- What is set aside at an end of the window is set aside whole. -/
theorem State.endWindow_toIdle (e : Ending) (x : Time) (s : State) : (s.endWindow e x).cyt.toIdle = s.cyt.toIdle := by
  cases hw : s.wen.window with
  | none => rw [State.endWindow_of_none hw]
  | some w =>
    rw [State.endWindow_cyt hw]
    rcases Cyt.take_cases s.cyt (s.wen.result w e x) with hk | ⟨-, -, -, -, hlast⟩
    · rw [hk]
    · simp [Cyt.toIdle, hlast]

/-- Parking up to the deferred change that follows it. -/
def State.parkWork (t : Time) (s : State) : State :=
  ((((((s.modDin fun d => { d with power := .parked }).modFcl Fcl.clearHolding).parkSlots.endWindow .parked
    t).interruptRun .parked t).modWen fun w => { w with latest := none }).modCyt Cyt.toIdle).modCport Cport.park

theorem State.park_eq (t : Time) (s : State) : s.park t = (s.parkWork t).applyDeferred t := rfl

theorem State.parkWork_wen (t : Time) (s : State) :
    (s.parkWork t).wen = { (s.endWindow .parked t).wen with
      latest := none, calibration := s.wen.calibration.map Calibration.interrupted } := by
  have he := State.endWindow_wen_congr (s := s)
    (t := ((s.modDin fun d => { d with power := .parked }).modFcl Fcl.clearHolding).parkSlots) (by simp) .parked t
  have hc : (s.endWindow .parked t).wen.calibration = s.wen.calibration := by simp
  simp [State.parkWork, State.interruptRun_wen, he]

@[simp] theorem State.parkWork_frame (t : Time) (s : State) :
    (s.parkWork t).time = s.time ∧ (s.parkWork t).mport = s.mport ∧ (s.parkWork t).fcl = s.fcl.clearHolding ∧
    (s.parkWork t).sig = s.parkSlots.sig ∧ (s.parkWork t).din = { s.din with power := .parked } ∧
    (s.parkWork t).cyt = s.cyt.toIdle ∧ (s.parkWork t).lac = s.lac ∧ (s.parkWork t).mgt.mode = s.mgt.mode ∧
    (s.parkWork t).mgt.deferred = s.mgt.deferred ∧ (s.parkWork t).mgt.assembly = s.mgt.assembly := by
  simp [State.parkWork, State.endWindow_toIdle, State.parkSlots]

/-- A valid SET_MODE leaves the state, stores or removes a deferred change, or changes the mode (R198). -/
theorem State.requestMode_cases (m : ModeTarget) (s : State) :
    (s.requestMode m).state = s ∨ (∃ d, (s.requestMode m).state = s.setDeferred d) ∨
      (s.requestMode m).state = s.changeMode m .command s.time := by
  have hchange : ∀ block, (s.changeUnless block m).state = s ∨
      (s.changeUnless block m).state = s.changeMode m .command s.time := fun block => by
    unfold State.changeUnless
    split
    · exact .inr rfl
    · exact .inl rfl
  unfold State.requestMode
  split
  · cases m <;> exact .inr (.inl ⟨_, rfl⟩)
  · cases m with
    | config =>
      dsimp only
      split
      · exact .inl rfl
      · exact (hchange _).imp_right .inr
    | run =>
      dsimp only
      split
      · exact .inl rfl
      · exact (hchange _).imp_right .inr
    | calibrate c r => exact (hchange _).imp_right .inr

@[simp] theorem State.requestMode_frame (m : ModeTarget) (s : State) :
    (s.requestMode m).state.time = s.time ∧ (s.requestMode m).state.baud = s.baud ∧
    (s.requestMode m).state.mport = s.mport ∧ (s.requestMode m).state.fcl = s.fcl ∧
    (s.requestMode m).state.sig = s.sig ∧ (s.requestMode m).state.din = s.din ∧
    (s.requestMode m).state.wen.record = s.wen.record ∧ (s.requestMode m).state.wen.curveE = s.wen.curveE ∧
    (s.requestMode m).state.wen.curveL = s.wen.curveL ∧ (s.requestMode m).state.wen.bands = s.wen.bands ∧
    (s.requestMode m).state.wen.window = s.wen.window ∧ (s.requestMode m).state.lac = s.lac ∧
    (s.requestMode m).state.cport.budget = s.cport.budget ∧
    (s.requestMode m).state.mgt.assembly = s.mgt.assembly ∧ (s.requestMode m).state.mgt.mask = s.mgt.mask ∧
    (s.requestMode m).state.mgt.node = s.mgt.node ∧ (s.requestMode m).state.freeCount = s.freeCount ∧
    (s.requestMode m).state.pending = s.pending := by
  rcases State.requestMode_cases m s with h | ⟨d, h⟩ | h <;> rw [h] <;> simp

/-! ### What the transmitters and a reported page leave unchanged -/

@[simp] theorem State.setTx_frame (p : Port) (x : TxState) (s : State) :
    (s.setTx p x).time = s.time ∧ (s.setTx p x).baud = s.baud ∧ (s.setTx p x).fcl = s.fcl ∧
    (s.setTx p x).sig = s.sig ∧ (s.setTx p x).din = s.din ∧ (s.setTx p x).wen = s.wen ∧ (s.setTx p x).cyt = s.cyt ∧
    (s.setTx p x).lac = s.lac ∧ (s.setTx p x).mgt = s.mgt ∧ (s.setTx p x).freeCount = s.freeCount ∧
    (s.setTx p x).pending = s.pending := by
  cases p <;> exact ⟨rfl, rfl, rfl, rfl, rfl, rfl, rfl, rfl, rfl, rfl, rfl⟩

@[simp] theorem State.discardCarried_frame (p : Port) (s : State) :
    (s.discardCarried p).time = s.time ∧ (s.discardCarried p).baud = s.baud ∧ (s.discardCarried p).fcl = s.fcl ∧
    (s.discardCarried p).sig = s.sig ∧ (s.discardCarried p).din = s.din ∧ (s.discardCarried p).wen = s.wen ∧
    (s.discardCarried p).cyt = s.cyt ∧ (s.discardCarried p).lac = s.lac ∧ (s.discardCarried p).mgt = s.mgt ∧
    (s.discardCarried p).freeCount = s.freeCount ∧ (s.discardCarried p).pending = s.pending := by
  unfold State.discardCarried
  split
  · split <;> simp
  · simp

@[simp] theorem State.clearReported_frame (page item part : Nat) (s : State) :
    (s.clearReported page item part).time = s.time ∧ (s.clearReported page item part).baud = s.baud ∧
    (s.clearReported page item part).mport = s.mport ∧ (s.clearReported page item part).fcl = s.fcl ∧
    (s.clearReported page item part).sig = s.sig ∧ (s.clearReported page item part).din.power = s.din.power ∧
    (s.clearReported page item part).wen = s.wen ∧ (s.clearReported page item part).cyt = s.cyt ∧
    (s.clearReported page item part).lac = s.lac ∧ (s.clearReported page item part).cport = s.cport ∧
    (s.clearReported page item part).mgt = s.mgt ∧ (s.clearReported page item part).freeCount = s.freeCount ∧
    (s.clearReported page item part).pending = s.pending := by
  unfold State.clearReported
  (repeat' split) <;> simp [State.modLine]

/-! ### Properties that the readers of a value keep (R34, R199)

`W` is what holds while an event is handled, and `P` what holds once a deferred change has followed it. -/

/-- What WEN, CYT and MGT do with a value, a loss, a timeout or a dump keeps `W`, and a deferred change makes `W`
`P`. -/
structure Readers (W P : State → Prop) : Prop where
  weaken : ∀ s, P s → W s
  testPoint : ∀ (isHead : Bool) (t : Time) (s : State), W s → W (s.testPoint isHead t)
  calPoint : ∀ (isHead : Bool) (t : Time) (s : State), W s → W (s.calPoint isHead t)
  evaluate : ∀ (t : Time) (s : State), W s → W (s.evaluate t)
  dumpEvent : ∀ (t : Time) (s : State), W s → W (s.dumpEvent t)
  tip : ∀ (armed : Bool) (s : State), W s → W (s.modCyt fun c => { c with tipArmed := armed })
  endWindow : ∀ (e : Ending) (t : Time) (s : State), W s → W (s.endWindow e t)
  interruptRun : ∀ (reason : BreakReason) (t : Time) (s : State), W s → W (s.interruptRun reason t)
  applyDeferred : ∀ (t : Time) (s : State), W s → P (s.applyDeferred t)

namespace Readers
variable {W P : State → Prop} (R : Readers W P)
include R

theorem tipTest (v : Int) (t : Time) {s : State} (h : W s) : W (s.tipTest v t) := by
  unfold State.tipTest
  split
  · split
    · exact h
    · split
      · split
        · exact R.dumpEvent _ _ (R.tip _ _ h)
        · exact h
      · split
        · exact R.tip _ _ h
        · exact h
  · exact h

theorem readAccepted (r : Role) (v : Int) (t : Time) {s : State} (h : P s) : P (s.readAccepted r v t) := by
  have hw := R.weaken _ h
  cases r with
  | head => exact R.applyDeferred _ _ (R.evaluate _ _ (R.calPoint _ _ _ (R.testPoint _ _ _ hw)))
  | boom => exact R.applyDeferred _ _ (R.evaluate _ _ (R.calPoint _ _ _ (R.testPoint _ _ _ hw)))
  | tilt => exact R.applyDeferred _ _ (R.tipTest v t hw)
  | rod => exact h
  | pitch => exact h

theorem handOff
    (flag : ∀ (r : Role) (f : Slot → Slot) (s : State),
      f = (fun x => { x with short := true }) ∨ f = (fun x => { x with implausible := true }) → P s → P (s.modSlot r f))
    (accept : ∀ (bytes : List Byte) (i : Fin 16) (v : Int) (t : Time) (s : State),
      s.extraction s.sig.sxt[i] bytes = .value v → P s →
      P (s.acceptValue s.sig.sxt[i].role v t (some s.sig.sxt[i].timeout)))
    (bytes : List Byte) (t : Time) (i : Fin 16) {s : State} (h : P s) : P (s.handOff bytes t i) := by
  unfold State.handOff
  dsimp only
  split
  · exact h
  · exact flag _ _ _ (.inl rfl) h
  · exact flag _ _ _ (.inr rfl) h
  · rename_i v hv
    exact R.readAccepted _ _ _ (accept bytes i v t s hv h)

theorem offerBoom
    (accept : ∀ (r : MachineRecord) (v : Int) (t : Time) (s : State), s.wen.record = some r → r.boomSource = .encoder →
      s.din.power = .running → P s → P (s.acceptValue .boom v t none))
    (t : Time) {s : State} (h : P s) : P (s.offerBoom t) := by
  unfold State.offerBoom
  split
  · rename_i r hr
    split
    · rename_i hc
      obtain ⟨hsource, -, hpower⟩ := hc
      exact R.readAccepted _ _ _ (accept r _ t s hr hsource hpower h)
    · exact h
  · exact h

theorem slotLost (r : Role) (x : Time) {s : State}
    (h : P ((s.modSlot r Slot.goLost).raiseAlert .signalLost (roleCode r) x)) : P (s.slotLost r x) := by
  unfold State.slotLost
  dsimp only
  split
  · exact R.applyDeferred _ _ (R.interruptRun _ _ _ (R.endWindow _ _ _ (R.weaken _ h)))
  · exact h

theorem timeout (x : Time) {s : State} (h : P s) : P ((s.endWindow .timeout x).applyDeferred x) :=
  R.applyDeferred _ _ (R.endWindow _ _ _ (R.weaken _ h))

theorem dump (t : Time) {s : State} (h : P s) : P ((s.dumpEvent t).applyDeferred t) :=
  R.applyDeferred _ _ (R.dumpEvent _ _ (R.weaken _ h))

end Readers

/-! ### The test point and the calibration point by their parts -/

/-- A property kept by the parts of a test point is kept by it (R61). -/
theorem State.testPoint_induct {W : State → Prop} {s : State} (isHead : Bool) (t : Time) (h : W s)
    (opens : s.tracking = true → ∀ r, s.wen.record = some r → ∀ theta, W (s.openTest r theta t))
    (sample : ∀ r s, W s → s.wen.record = some r → W (s.weighSample r t))
    (top : ∀ w x s, W s → s.wen.window = some w →
        W (s.modWen fun y => { y with window := some { w with highest := x } }))
    (ends : ∀ e s, W s → W (s.endWindow e t))
    (theta : ∀ x s, W s → W (s.modWen fun w => { w with prevTheta := x })) : W (s.testPoint isHead t) := by
  unfold State.testPoint
  split
  · rename_i htr
    split
    · exact h
    · rename_i r hr
      have hopen := opens htr r hr s.thetaEff
      have hrec : (s.openTest r s.thetaEff t).wen.record = some r := by simp [hr]
      have hsample : W (if isHead then (s.openTest r s.thetaEff t).weighSample r t else s.openTest r s.thetaEff t) := by
        split
        · exact sample r _ hopen hrec
        · exact hopen
      refine theta _ _ ?_
      unfold State.endTest
      split
      · rename_i w th hw hth
        split
        · exact ends _ _ hsample
        · have htop := top w (max w.highest th) _ hsample hw
          dsimp only
          split
          · exact ends _ _ htop
          · exact htop
      · exact hsample
  · exact h

/-- A property that the changes of a run, the frames, the curve and the change of mode of a calibration point keep is
kept by it (R88 to R98). -/
theorem State.calPoint_induct {W : State → Prop} {s : State} (isHead : Bool) (t : Time) (h : W s)
    (note : ∀ s, W s → W (s.noteLatest t)) (setCal : ∀ c s, W s → W (s.setCal c))
    (offer : ∀ f s, W s → W (s.offerE f)) (write : ∀ c v s, W s → W (s.writeCurve c v t))
    (change : ∀ s, W s → W (s.changeMode .config .completion t)) : W (s.calPoint isHead t) := by
  have breaks : ∀ reason s, W s → W (s.breakRun reason t) := fun reason s h => by
    unfold State.breakRun
    split
    · split
      · exact offer _ _ (setCal _ _ h)
      · exact h
    · exact h
  have captures : ∀ r c th0 f0 top values th1 f1 s, W s → W (s.capturePoints r c th0 f0 top values th1 f1 t) := by
    intro r c th0 f0 top values th1 f1 s h
    unfold State.capturePoints
    dsimp only
    split
    · unfold State.runDone
      dsimp only
      split
      · exact offer _ _ (setCal _ _ h)
      · exact change _ (offer _ _ (write _ _ _ (offer _ _ (setCal _ _ h))))
    · exact setCal _ _ h
  have head : ∀ r c s, W s → W (s.calHead r c t) := fun r c s h => by
    unfold State.calHead
    split
    · split
      · unfold State.armedSample
        split
        · split
          · exact captures _ _ _ _ _ _ _ _ _ h
          · exact setCal _ _ h
        · split
          · exact setCal _ _ h
          · exact h
      · exact setCal _ _ h
    · split
      · exact breaks _ _ h
      · split
        · exact breaks _ _ h
        · split
          · exact breaks _ _ h
          · exact captures _ _ _ _ _ _ _ _ _ h
  have boom : ∀ r c s, W s → W (s.calBoom r c t) := fun r c s h => by
    unfold State.calBoom
    split
    · split
      · exact breaks _ _ h
      · split
        · exact breaks _ _ h
        · exact setCal _ _ h
    · exact h
  unfold State.calPoint
  split
  · split
    · split
      · exact head _ _ _ (note _ h)
      · exact boom _ _ _ h
    · exact h
  · exact h

end Sys2Proof.Machine
end

section
/-! ## Mode, window, cycle and calibration stay fitting (O8) -/
namespace Sys2Proof.Machine

/-! ### The transitions of CYT -/

/-- The changes that an evaluation can choose (R104). -/
theorem MachineRecord.nextCycle_cases (r : MachineRecord) (c : CycleState) (theta : Int) (f th : Option Int) :
    r.nextCycle c theta f th = c ∨ c = .idle ∧ r.nextCycle c theta f th = .dig ∨
      c = .dig ∧ r.nextCycle c theta f th = .lift ∨ c = .dig ∧ r.nextCycle c theta f th = .idle ∨
      c = .lift ∧ r.nextCycle c theta f th = .idle ∨ c = .carry ∧ r.nextCycle c theta f th = .lift ∨
      c = .lower ∧ r.nextCycle c theta f th = .idle := by
  unfold MachineRecord.nextCycle
  cases c <;> dsimp only <;> (repeat' split) <;> simp

theorem State.cycleTo_self (t : Time) (s : State) : s.cycleTo s.cyt.state t = s := by simp [State.cycleTo]

theorem State.cycleTo_dig (t : Time) {s : State} (h : s.cyt.state ≠ .dig) :
    s.cycleTo .dig t = s.modCyt fun c => c.enterDig t := by
  simp [State.cycleTo, h.symm]

theorem State.cycleTo_returned (t : Time) {s : State} (h : s.cyt.state = .lift) : s.cycleTo .idle t = s.returnPass := by
  simp [State.cycleTo, h]

theorem State.cycleTo_of_ne (t : Time) {s : State} {c : CycleState} (h : c ≠ s.cyt.state) (hd : c ≠ .dig)
    (hr : ¬ (s.cyt.state = .lift ∧ c = .idle)) : s.cycleTo c t = s.modCyt fun x => { x with state := c } := by
  simp only [State.cycleTo, if_neg h, if_neg hd, if_neg hr]

/-- What the mode, the deferred change, the power state, CYT, the window, the calibration and tare armed are. -/
def State.work (s : State) : Mode × Option Deferred × Power × Cyt × Bool × Bool × Bool :=
  (s.mgt.mode, s.mgt.deferred, s.din.power, s.cyt, s.wen.window.isSome, s.wen.calibration.isSome, s.wen.tareArmed)

/-- `ModesSound` but for the OPEN window that a deferred change waits for: what holds while an event is handled. -/
structure State.WorkSound (s : State) : Prop where
  window : s.wen.window.isSome = true → s.mgt.mode = .run ∧ s.din.power = .running
  deferredRuns : ∀ c r, s.mgt.deferred = some (.calibrate c r) → 1 ≤ r ∧ r ≤ 4
  calibration : s.wen.calibration.isSome = true ↔ s.mgt.mode = .calibrate
  cycle : s.cyt.state ≠ .idle → s.mgt.mode = .run ∧ s.din.power = .running ∧ s.cyt.start.isSome = true
  carried : s.cyt.pending.isSome = true ∨ s.cyt.marker = true → s.cyt.state = .lift ∨ s.cyt.state = .carry
  tareArmed : s.wen.tareArmed = true → s.mgt.mode = .run

theorem State.modesSound_iff (s : State) :
    s.ModesSound ↔ s.WorkSound ∧ (s.mgt.deferred.isSome = true → s.wen.window.isSome = true) :=
  ⟨fun ⟨h1, h2, h3, h4, h5, h6, h7⟩ => ⟨⟨h1, h3, h4, h5, h6, h7⟩, h2⟩,
    fun ⟨⟨h1, h3, h4, h5, h6, h7⟩, h2⟩ => ⟨h1, h2, h3, h4, h5, h6, h7⟩⟩

theorem State.tracking_iff (s : State) : s.tracking = true ↔ s.mgt.mode = .run ∧ s.din.power = .running := by
  simp [State.tracking]

namespace State.WorkSound
variable {s t : State}

theorem congr (h : s.WorkSound) (e : t.work = s.work) : t.WorkSound := by
  simp only [State.work, Prod.mk.injEq] at e
  obtain ⟨hmode, hdef, hpower, hcyt, hwin, hcal, htare⟩ := e
  obtain ⟨h1, h2, h3, h4, h5, h6⟩ := h
  constructor
  · rw [hwin, hmode, hpower]; exact h1
  · rw [hdef]; exact h2
  · rw [hcal, hmode]; exact h3
  · rw [hcyt, hmode, hpower]; exact h4
  · rw [hcyt]; exact h5
  · rw [htare, hmode]; exact h6

/-- Outside RUN there is no window, CYT is IDLE, and tare is not armed. -/
theorem outside_run (h : s.WorkSound) (hm : s.mgt.mode ≠ .run) :
    s.wen.window = none ∧ s.cyt.state = .idle ∧ s.wen.tareArmed = false := by
  refine ⟨?_, ?_, ?_⟩
  · by_contra hw
    exact hm (h.window (Option.isSome_iff_ne_none.2 hw)).1
  · by_contra hc
    exact hm (h.cycle hc).1
  · by_contra ht
    exact hm (h.tareArmed (by simpa using ht))

/-- In IDLE, DIG and LOWER nothing is pending and no tare pass is marked. -/
theorem nothing_carried (h : s.WorkSound) (hl : s.cyt.state ≠ .lift) (hc : s.cyt.state ≠ .carry) :
    s.cyt.pending.isSome = false ∧ s.cyt.marker = false := by
  have := h.carried
  grind

/-- CYT replaced by one that keeps the rules of its state. -/
theorem withCyt (h : s.WorkSound) (c : Cyt)
    (cycle : c.state ≠ .idle → s.mgt.mode = .run ∧ s.din.power = .running ∧ c.start.isSome = true)
    (carried : c.pending.isSome = true ∨ c.marker = true → c.state = .lift ∨ c.state = .carry)
    (ht : t.work = ({ s with cyt := c } : State).work) : t.WorkSound :=
  congr (s := { s with cyt := c }) ⟨h.window, h.deferredRuns, h.calibration, cycle, carried, h.tareArmed⟩ ht

theorem idle (h : s.WorkSound) (c : Cyt) (hc : c.state = .idle) (hp : c.pending.isSome = false) (hm : c.marker = false)
    (ht : t.work = ({ s with cyt := c } : State).work) : t.WorkSound :=
  h.withCyt c (by simp [hc]) (by simp [hp, hm]) ht

theorem endWindow (h : s.WorkSound) (e : Ending) (x : Time) : (s.endWindow e x).WorkSound := by
  cases hw : s.wen.window with
  | none => rwa [State.endWindow_of_none hw]
  | some w =>
    obtain ⟨hrun, hpower⟩ := h.window (by simp [hw])
    constructor
    · simp
    · simpa using h.deferredRuns
    · rw [State.endWindow_wen hw]
      simpa using h.calibration
    · rw [State.endWindow_cyt hw]
      rcases Cyt.take_cases s.cyt (s.wen.result w e x) with hk | ⟨hstate, -, hstart, -⟩
      · rw [hk]
        simpa using h.cycle
      · intro _
        rw [hstart]
        simpa using h.cycle (by rcases hstate with hs | hs <;> simp [hs])
    · rw [State.endWindow_cyt hw]
      rcases Cyt.take_cases s.cyt (s.wen.result w e x) with hk | ⟨-, hafter, -⟩
      · rw [hk]
        exact h.carried
      · exact fun _ => hafter
    · rw [State.endWindow_wen hw]
      simp

theorem testPoint (h : s.WorkSound) (isHead : Bool) (x : Time) : (s.testPoint isHead x).WorkSound := by
  refine State.testPoint_induct isHead x h ?_ ?_ ?_ ?_ ?_
  · intro htr r _ theta
    obtain ⟨hrun, hpower⟩ := s.tracking_iff.1 htr
    unfold State.openTest
    split
    · split
      · exact ⟨fun _ => ⟨hrun, hpower⟩, h.deferredRuns, h.calibration, h.cycle, h.carried, h.tareArmed⟩
      · exact h
    · exact h
  · intro r s h _
    refine h.congr ?_
    unfold State.weighSample
    split
    · rfl
    · rename_i w hw
      simp [State.work, hw]
  · intro w y s h hw
    exact h.congr (by simp [State.work, hw])
  · exact fun e s h => h.endWindow e x
  · exact fun y s h => h.congr (by simp [State.work])

/-- A change of mode with no window OPEN (R200). -/
theorem changeMode (h : s.WorkSound) (hw : s.wen.window = none) (m : ModeTarget) (cause : NoticeCause) (x : Time) :
    (s.changeMode m cause x).WorkSound := by
  have hout := h.outside_run
  have hcyt : (s.changeMode m cause x).cyt = s.cyt.toIdle ∨
      m.mode = .run ∧ (s.changeMode m cause x).cyt = { s.cyt with tipArmed := false } ∨
      s.mgt.mode ≠ .run ∧ (s.changeMode m cause x).cyt = s.cyt := by
    rw [State.changeMode_cyt]
    split
    · exact .inl rfl
    · split
      · exact .inr (.inl ⟨‹_›, rfl⟩)
      · exact .inr (.inr ⟨by tauto, rfl⟩)
  constructor
  · simp [State.changeMode_wen, hw]
  · simpa using h.deferredRuns
  · rw [State.changeMode_wen, State.changeMode_mode]
    cases m <;> simp [ModeTarget.calibration, ModeTarget.mode]
  · rw [State.changeMode_mode]
    rcases hcyt with he | ⟨hm, he⟩ | ⟨hs, he⟩
    · simp [he, Cyt.toIdle]
    · rw [he]
      by_cases hs : s.mgt.mode = .run
      · simpa [hm, hs] using h.cycle
      · simp [hout hs]
    · simp [he, hout hs]
  · rcases hcyt with he | ⟨-, he⟩ | ⟨-, he⟩
    · simp [he, Cyt.toIdle]
    · simpa [he] using h.carried
    · simpa [he] using h.carried
  · rw [State.changeMode_wen, State.changeMode_mode]
    by_cases hs : s.mgt.mode = .run <;> by_cases hm : m.mode = .run <;> simp [hs, hm]
    simp [hout hs]

theorem setDeferred_none (h : s.WorkSound) : (s.setDeferred none).WorkSound :=
  ⟨h.window, (by simp), h.calibration, h.cycle, h.carried, h.tareArmed⟩

theorem applyDeferred (h : s.WorkSound) (x : Time) : (s.applyDeferred x).ModesSound := by
  rw [State.modesSound_iff]
  rcases State.applyDeferred_cases x s with ⟨hor, he⟩ | ⟨hw, d, -, ⟨-, he⟩ | ⟨-, he⟩⟩
  · rw [he]
    exact ⟨h, fun hd => hor.elim (fun hn => by simp [hn] at hd) id⟩
  · rw [he]
    exact ⟨h.setDeferred_none.changeMode (by simpa using hw) _ _ _, by simp⟩
  · rw [he]
    exact ⟨h.setDeferred_none, by simp⟩

/-- From DIG and LOWER CYT goes to IDLE with nothing pending. -/
theorem toIdle (h : s.WorkSound) {c : CycleState} (hc : s.cyt.state = c) (hd : c = .dig ∨ c = .lower) (x : Time) :
    (s.cycleTo .idle x).WorkSound := by
  have hl : s.cyt.state ≠ .lift ∧ s.cyt.state ≠ .carry ∧ s.cyt.state ≠ .idle := by
    rcases hd with hd | hd <;> simp [hc, hd]
  obtain ⟨hpending, hmarker⟩ := h.nothing_carried hl.1 hl.2.1
  rw [State.cycleTo_of_ne _ hl.2.2.symm (by simp) (by simp [hl.1])]
  exact h.idle { s.cyt with state := .idle } rfl hpending hmarker rfl

theorem cycleTo (h : s.WorkSound) (htr : s.tracking = true) (r : MachineRecord) (theta : Int) (f th : Option Int)
    (x : Time) : (s.cycleTo (r.nextCycle s.cyt.state theta f th) x).WorkSound := by
  obtain ⟨hrun, hpower⟩ := s.tracking_iff.1 htr
  rcases r.nextCycle_cases s.cyt.state theta f th with hn | ⟨hc, hn⟩ | ⟨hc, hn⟩ | ⟨hc, hn⟩ | ⟨hc, hn⟩ | ⟨hc, hn⟩ |
    ⟨hc, hn⟩ <;> rw [hn]
  · rwa [State.cycleTo_self]
  · have hcar := h.nothing_carried (by simp [hc]) (by simp [hc])
    rw [State.cycleTo_dig _ (by simp [hc])]
    exact h.withCyt (s.cyt.enterDig x) (by simp [hrun, hpower, Cyt.enterDig]) (by simpa [Cyt.enterDig] using hcar) rfl
  · rw [State.cycleTo_of_ne _ (by simp [hc]) (by simp) (by simp)]
    exact h.withCyt { s.cyt with state := .lift } (fun _ => h.cycle (by simp [hc])) (by simp) rfl
  · exact h.toIdle hc (.inl rfl) x
  · rw [State.cycleTo_returned _ hc]
    exact h.idle { s.cyt with state := .idle, pending := none, marker := false } rfl rfl rfl rfl
  · rw [State.cycleTo_of_ne _ (by simp [hc]) (by simp) (by simp)]
    exact h.withCyt { s.cyt with state := .lift } (fun _ => h.cycle (by simp [hc])) (by simp) rfl
  · exact h.toIdle hc (.inr rfl) x

theorem evaluate (h : s.WorkSound) (x : Time) : (s.evaluate x).WorkSound := by
  unfold State.evaluate
  split
  · rename_i htr
    split
    · exact h.cycleTo htr _ _ _ _ _
    · exact h
  · exact h

theorem dumpEvent (h : s.WorkSound) (x : Time) : (s.dumpEvent x).WorkSound := by
  unfold State.dumpEvent
  split
  · rename_i hc
    simp only [Bool.and_eq_true, Bool.or_eq_true, decide_eq_true_eq, State.tracking_iff] at hc
    obtain ⟨⟨hrun, hpower⟩, hstate⟩ := hc
    have hend := h.endWindow .dumped x
    have hstart : (s.endWindow .dumped x).cyt.start.isSome = true := by
      have h0 := (h.cycle (by rcases hstate with hs | hs <;> simp [hs])).2.2
      cases hw : s.wen.window with
      | none => rwa [State.endWindow_of_none hw]
      | some w =>
        rw [State.endWindow_cyt hw]
        rcases Cyt.take_cases s.cyt (s.wen.result w .dumped x) with hk | ⟨-, -, hk, -⟩ <;> rwa [hk]
    refine hend.withCyt { (s.endWindow .dumped x).cyt with pending := none, marker := false, state := .lower }
      (fun _ => ⟨by simpa using hrun, by simpa using hpower, hstart⟩) (by simp) ?_
    simp [State.work]
  · exact h

theorem setCal (h : s.WorkSound) (hc : s.wen.calibration.isSome = true) (c : Calibration) : (s.setCal c).WorkSound :=
  h.congr (by simp [State.work, hc])

theorem breakRun (h : s.WorkSound) (reason : BreakReason) (x : Time) : (s.breakRun reason x).WorkSound := by
  unfold State.breakRun
  split
  · rename_i c hc
    split
    · exact h.congr (by simp [State.work, hc])
    · exact h
  · exact h

theorem interruptRun (h : s.WorkSound) (reason : BreakReason) (x : Time) : (s.interruptRun reason x).WorkSound := by
  unfold State.interruptRun
  split
  · rename_i c hc
    split
    · exact h.breakRun reason x
    · exact h.setCal (by simp [hc]) _
  · exact h

theorem runDone (h : s.WorkSound) (hc : s.wen.calibration.isSome = true) (c : Calibration) (points : Nat) (x : Time) :
    (s.runDone c points x).WorkSound := by
  have hmode := h.calibration.1 hc
  have hw := (h.outside_run (by simp [hmode])).1
  unfold State.runDone
  dsimp only
  split
  · exact h.congr (by simp [State.work, hc])
  · unfold State.completeCalibration
    dsimp only
    refine changeMode (h.congr ?_) ?_ _ _ _
    · simp [State.work, hc]
    · simp [hw]

theorem capturePoints (h : s.WorkSound) (hc : s.wen.calibration.isSome = true) (r : MachineRecord) (c : Calibration)
    (th0 f0 top : Int) (values : List Int) (th1 f1 : Int) (x : Time) :
    (s.capturePoints r c th0 f0 top values th1 f1 x).WorkSound := by
  unfold State.capturePoints
  dsimp only
  split
  · exact h.runDone hc _ _ _
  · exact h.setCal hc _

theorem armedSample (h : s.WorkSound) (hc : s.wen.calibration.isSome = true) (r : MachineRecord) (c : Calibration)
    (start : Option (Int × Int)) (th f : Int) (x : Time) : (s.armedSample r c start th f x).WorkSound := by
  unfold State.armedSample
  split
  · split
    · exact h.capturePoints hc _ _ _ _ _ _ _ _ _
    · exact h.setCal hc _
  · split
    · exact h.setCal hc _
    · exact h

theorem calHead (h : s.WorkSound) (hc : s.wen.calibration.isSome = true) (r : MachineRecord) (c : Calibration)
    (x : Time) : (s.calHead r c x).WorkSound := by
  unfold State.calHead
  split
  · split
    · exact h.armedSample hc _ _ _ _ _ _
    · exact h.setCal hc _
  · split
    · exact h.breakRun _ _
    · split
      · exact h.breakRun _ _
      · split
        · exact h.breakRun _ _
        · exact h.capturePoints hc _ _ _ _ _ _ _ _ _

theorem calBoom (h : s.WorkSound) (hc : s.wen.calibration.isSome = true) (r : MachineRecord) (c : Calibration)
    (x : Time) : (s.calBoom r c x).WorkSound := by
  unfold State.calBoom
  split
  · split
    · exact h.breakRun _ _
    · split
      · exact h.breakRun _ _
      · exact h.setCal hc _
  · exact h

theorem calPoint (h : s.WorkSound) (isHead : Bool) (x : Time) : (s.calPoint isHead x).WorkSound := by
  unfold State.calPoint
  split
  · split
    · rename_i r c _ hc
      split
      · exact calHead (h.congr (by simp [State.work])) (by simp [hc]) _ _ _
      · exact h.calBoom (by simp [hc]) _ _ _
    · exact h
  · exact h

end State.WorkSound

theorem readersModesSound : Readers State.WorkSound State.ModesSound where
  weaken s h := (s.modesSound_iff.1 h).1
  testPoint b t s h := h.testPoint b t
  calPoint b t s h := h.calPoint b t
  evaluate t s h := h.evaluate t
  dumpEvent t s h := h.dumpEvent t
  tip b s h := h.withCyt { s.cyt with tipArmed := b } h.cycle h.carried rfl
  endWindow e t s h := h.endWindow e t
  interruptRun r t s h := h.interruptRun r t
  applyDeferred t s h := h.applyDeferred t

theorem State.ModesSound.congr {s t : State} (h : s.ModesSound) (e : t.work = s.work) : t.ModesSound := by
  have hw := ((s.modesSound_iff.1 h).1).congr e
  simp only [State.work, Prod.mk.injEq] at e
  obtain ⟨-, hdef, -, -, hwin, -⟩ := e
  exact t.modesSound_iff.2 ⟨hw, by rw [hdef, hwin]; exact h.deferred⟩

/-- With no window OPEN and nothing deferred, the rules of `WorkSound` are those of `ModesSound`. -/
theorem State.WorkSound.modesSound {s : State} (h : s.WorkSound) (hd : s.mgt.deferred = none) : s.ModesSound :=
  s.modesSound_iff.2 ⟨h, by simp [hd]⟩

theorem State.ModesSound.no_deferred {s : State} (h : s.ModesSound) (hw : s.wen.window = none) :
    s.mgt.deferred = none := by
  have := h.deferred
  simpa [hw] using this

/-- The work in flight set aside: no window, no calibration but in CALIBRATE, CYT IDLE (R154, R207). -/
theorem State.WorkSound.setAside {s t : State} (h : s.WorkSound) (hmode : t.mgt.mode = s.mgt.mode)
    (hdef : t.mgt.deferred = s.mgt.deferred) (hwin : t.wen.window = none)
    (hcal : t.wen.calibration.isSome = s.wen.calibration.isSome) (hcyt : t.cyt = s.cyt.toIdle)
    (htare : t.wen.tareArmed = true → s.wen.tareArmed = true) : t.WorkSound :=
  ⟨by simp [hwin], by rw [hdef]; exact h.deferredRuns, by rw [hcal, hmode]; exact h.calibration,
    by simp [hcyt, Cyt.toIdle], by simp [hcyt, Cyt.toIdle], fun ht => by rw [hmode]; exact h.tareArmed (htare ht)⟩

theorem State.ModesSound.mode {s : State} (h : s.ModesSound) {mode target runs : Nat} {m : ModeTarget}
    (hm : modeTargetOf mode target runs = some m) : (s.requestMode m).state.ModesSound := by
  have hwork := (s.modesSound_iff.1 h).1
  unfold State.requestMode
  split
  · rename_i hopen
    have hset : ∀ d : Option Deferred, (∀ c r, d = some (.calibrate c r) → 1 ≤ r ∧ r ≤ 4) →
        (s.setDeferred d).ModesSound := fun d hd =>
      ⟨h.window, fun _ => hopen.2, hd, h.calibration, h.cycle, h.carried, h.tareArmed⟩
    cases m with
    | run => exact hset _ (by simp)
    | config => exact hset _ (by simp)
    | calibrate c r =>
      refine hset _ fun c' r' he => ?_
      obtain ⟨-, rfl⟩ : c = c' ∧ r = r' := by simpa using he
      unfold modeTargetOf at hm
      (repeat' split at hm) <;> simp at hm
      obtain ⟨-, rfl⟩ := hm
      assumption
  · rename_i hclosed
    have hw : s.wen.window = none := by
      by_contra hsome
      have hrun := (h.window (Option.isSome_iff_ne_none.2 hsome)).1
      exact hclosed ⟨hrun, Option.isSome_iff_ne_none.2 hsome⟩
    have hchange : ∀ block, (s.changeUnless block m).state.ModesSound := fun block => by
      unfold State.changeUnless
      split
      · exact (hwork.changeMode hw _ _ _).modesSound (by simpa using h.no_deferred hw)
      · exact h
    cases m <;> dsimp only
    · split
      · exact h
      · exact hchange _
    · split
      · exact h
      · exact hchange _
    · exact hchange _

theorem State.WorkSound.park {s : State} (h : s.WorkSound) (t : Time) : (s.park t).ModesSound := by
  rw [State.park_eq]
  refine State.WorkSound.applyDeferred (h.setAside ?_ ?_ ?_ ?_ ?_ ?_) _
  · simp
  · simp
  · simp [State.parkWork_wen]
  · simp [State.parkWork_wen]
  · simp
  · rw [State.parkWork_wen]
    cases hw : s.wen.window with
    | none => rw [State.endWindow_of_none hw]; exact id
    | some w => rw [State.endWindow_wen hw]; simp

/-- While PARKED no window is OPEN and CYT is IDLE, so that a wake meets no work in flight (R155). -/
theorem State.ModesSound.wake {s : State} (h : s.ModesSound) (hp : s.din.power = .parked) (t : Time) :
    (s.wake t).ModesSound := by
  have hw : s.wen.window.isSome = false := by
    by_contra hsome
    simpa [hp] using (h.window (Bool.eq_true_of_not_eq_false hsome)).2
  have hidle : s.cyt.state = .idle := by
    by_contra hstate
    simpa [hp] using (h.cycle hstate).2.1
  unfold State.wake
  constructor
  · simp [hw]
  · simpa using h.deferred
  · simpa using h.deferredRuns
  · simpa using h.calibration
  · simp [hidle]
  · simpa using h.carried
  · simpa using h.tareArmed

theorem State.ModesSound.restart {s : State} (h : s.ModesSound) : s.endWork.warmValues.ModesSound := by
  constructor <;> simp [State.warmValues, Mgt.warm, Wen.warm, Cyt.toIdle]

/-- Each event keeps mode, window, cycle and calibration fitting. -/
theorem keptModesSound : Kept EveryRow State.ModesSound where
  waiting _ _ _ h := h.congr rfl
  coldReset _ _ _ := by constructor <;> simp [State.cold, Wen.cold, Mgt.cold, Cyt.cold]
  tick _ _ h := h.congr rfl
  offerE f s h := h.congr (by simp [State.work])
  latch a s h := h.congr (by simp [State.work])
  offerP f s h := h.congr (by simp [State.work])
  offerC f s h := h.congr (by simp [State.work])
  respond _ _ _ _ _ s _ h := h.congr (by simp [State.work])
  free _ _ h := h.congr rfl
  handOff _ bytes t i s h := readersModesSound.handOff (fun _ _ _ _ h => h.congr rfl)
    (fun _ _ _ _ s _ h => h.congr (by simp [State.work])) bytes t i h
  hold _ _ _ _ _ h := h.congr rfl
  drained _ _ h := h.congr rfl
  refill _ _ _ _ _ _ _ h := h.congr rfl
  fresh _ _ _ _ _ h := h.congr rfl
  loss r x s _ h := readersModesSound.slotLost r x (h.congr (by simp [State.work]))
  timeout x s h := readersModesSound.timeout x h
  gauge x s _ h := h.congr (by simp [State.work])
  offerBoom _ x y s h := readersModesSound.offerBoom (fun _ _ _ _ _ _ _ h => h.congr (by simp [State.work])) x
    (h.congr (by simp [State.work]))
  phases _ _ _ _ h := h.congr rfl
  phaseError qa qb s h := h.congr (by simp [State.work])
  index _ h := h.congr rfl
  line _ _ _ _ h := h.congr rfl
  dump t s h := readersModesSound.dump t h
  park t s _ h := ((s.modesSound_iff.1 h).1).park t
  wake t s hp h := h.wake hp t
  service s h := h.congr (by simp [State.work])
  arbiterTake _ _ _ _ h := h.congr rfl
  machineTake _ _ _ _ h := h.congr rfl
  cabSent _ _ _ h := h.congr rfl
  machineSent _ _ h := h.congr rfl
  failed p s _ h := h.congr (by cases p <;> rfl)
  discarded p t s _ h := h.congr (by simp [State.work])
  silenceEnd p _ h := h.congr (by cases p <;> rfl)
  reported page item part s h := h.congr (by simp [State.work])
  mode _ _ _ m s hm h := h.mode hm
  openLoad _ _ _ _ _ _ _ _ h := h.congr rfl
  loadData _ _ _ _ _ _ h := h.congr rfl
  failLoad _ _ _ h := h.congr rfl
  freeLoad _ h := h.congr rfl
  loadFat _ _ _ _ h := h.congr rfl
  loadSxt _ _ _ _ _ h := h.congr rfl
  loadRecord _ _ _ _ _ _ h := h.congr rfl
  loadCurve _ _ c xs s _ _ _ _ _ h := h.congr (by simp [State.work, State.setAssembly])
  loadBands _ _ _ _ h := h.congr rfl
  loadMaterials _ _ _ _ _ _ h := h.congr rfl
  loadLines _ _ _ _ h := h.congr rfl
  tare s hr h := ⟨h.window, h.deferred, h.deferredRuns, h.calibration, h.cycle, h.carried, fun _ => hr⟩
  cancelLast t s h := h.congr (by simp [State.work])
  nextTruck b t s h := h.congr (by simp [State.work])
  shiftClose _ _ h := h.congr rfl
  target _ _ t s _ h := h.congr (by simp [State.work])
  material _ _ _ _ h := h.congr rfl
  holdChan _ _ h := h.congr rfl
  releaseChan _ _ h := h.congr rfl
  blockChan _ _ h := h.congr rfl
  unblockChan _ _ h := h.congr rfl
  toggle _ _ _ _ h := h.congr rfl
  capture _ _ _ h := h.congr rfl
  notices _ _ _ h := h.congr rfl
  clearAlerts _ _ h := h.congr rfl
  node _ _ _ h := h.congr rfl
  restart _ s h := h.restart

/-- Settles O8: every event keeps the work in flight fitting the mode and the power state. -/
theorem modesStaySound : Obligations.ModesStaySound := by
  unfold Obligations.ModesStaySound
  exact fun _ _ h hs => keptModesSound.step h hs

end Sys2Proof.Machine
end

section
/-! ## Every signal slot stays sound (O10) -/
namespace Sys2Proof.Machine

/-! ### The slots after the operations of SIG -/

@[simp] theorem Sig.slot_clearOmega (g : Sig) (r : Role) : g.clearOmega.slot r = g.slot r := by cases r <;> rfl

@[simp] theorem Sig.clearOmega_sxt (g : Sig) : g.clearOmega.sxt = g.sxt := rfl

/-- An accepted value changes the slot of its role alone (R34). -/
theorem State.acceptValue_slot (r : Role) (v : Int) (t : Time) (timeout : Option Nat) (s : State) (q : Role) :
    (s.acceptValue r v t timeout).sig.slot q = if q = r then (s.sig.slot r).accept r v t timeout else s.sig.slot q := by
  unfold State.acceptValue
  by_cases hb : r = .boom
  · subst hb
    cases q <;> simp [Sig.slot, Sig.setSlot]
  · by_cases hq : q = r <;> simp [hb, hq]

/-- The slots set anew (R27). -/
theorem State.settleSlots_slot (t : Time) (s : State) (r : Role) :
    (s.settleSlots t).sig.slot r = freshSlot s.sig.sxt s.din.power (sourceOf s.sig.sxt s.wen.record r) t := by
  simp [State.settleSlots]

theorem State.parkSlots_slot (s : State) (r : Role) : s.parkSlots.sig.slot r = (s.sig.slot r).parked := by
  simp [State.parkSlots]

/-- The slots at a wake: a mapped one AWAITING with a loss expiry, an unmapped one as it was (R40). -/
theorem State.wakeSlots_slot (t : Time) (s : State) (r : Role) :
    (s.wakeSlots t).sig.slot r =
      if (s.sig.slot r).mapped then
        { s.sig.slot r with state := .awaiting, value := none, stamp := none, fresh := none,
                            loss := awaitingLoss s.sig.sxt .running (s.sig.slot r).source t }
      else s.sig.slot r := by
  simp [State.wakeSlots]

/-! ### One slot (R22, R23, R34 to R36) -/

/-- What `State.SlotSound` says of one slot, for the loss delay of its source, the power state and its role. -/
structure Slot.Sound (delay : Option Nat) (power : Power) (src : Source) (r : Role) (x : Slot) : Prop where
  source : x.source = src
  unmapped : x.state = .unmapped ↔ src = .none
  present : x.state = .valid ∨ x.state = .stale → x.value.isSome = true
  absent : x.state = .unmapped ∨ x.state = .awaiting → x.value = none
  stamp : x.stamp.isSome = x.value.isSome
  range : ∀ v, x.value = some v → roleMin r ≤ v ∧ v ≤ roleMax r
  fresh : x.fresh.isSome = true ↔ x.state = .valid ∧ delay ≠ none
  loss : x.loss.isSome = true → delay ≠ none ∧ (x.state = .awaiting ∨ x.state = .valid ∨ x.state = .stale)
  watched : power = .running → delay ≠ none → x.state ≠ .lost → x.loss.isSome = true
  parked : power = .parked → (x.state = .unmapped ∨ x.state = .awaiting) ∧ x.loss = none

/-- The slot of a role is sound for its source. -/
theorem State.slotSound_iff (s : State) (r : Role) :
    s.SlotSound r ↔ (s.sig.slot r).Sound (lossDelay s.sig.sxt (sourceOf s.sig.sxt s.wen.record r)) s.din.power
      (sourceOf s.sig.sxt s.wen.record r) r := by
  constructor
  · rintro ⟨h1, h2, h3, h4, h5, h6, h7, h8, h9, h10⟩
    rw [h1] at h2 h7 h8 h9
    exact ⟨h1, h2, h3, h4, h5, h6, h7, h8, h9, h10⟩
  · rintro ⟨h1, h2, h3, h4, h5, h6, h7, h8, h9, h10⟩
    rw [← h1] at h2 h7 h8 h9
    exact ⟨h1, h2, h3, h4, h5, h6, h7, h8, h9, h10⟩

theorem roleMin_le_clampRole (r : Role) (v : Int) : roleMin r ≤ clampRole r v ∧ clampRole r v ≤ roleMax r := by
  unfold clampRole clamp
  cases r <;> simp only [roleMin, roleMax] <;> omega

namespace Slot.Sound
variable {sxt : Vector SxtEntry 16} {d : Option Nat} {power : Power} {src : Source} {r : Role} {x : Slot}

/-- The flags of a slot play no part. -/
theorem flags (h : x.Sound d power src r) (a b c : Bool) :
    ({ x with implausible := a, short := b, clamped := c } : Slot).Sound d power src r :=
  ⟨h.source, h.unmapped, h.present, h.absent, h.stamp, h.range, h.fresh, h.loss, h.watched, h.parked⟩

theorem goStale (h : x.Sound d power src r) (hv : x.state = .valid) : x.goStale.Sound d power src r := by
  have hparked := h.parked
  have hloss := h.loss
  have hwatched := h.watched
  have hun := h.unmapped
  simp only [hv] at hparked hwatched hun
  refine ⟨h.source, ?_, fun _ => h.present (.inl hv), ?_, h.stamp, h.range, ?_, ?_, ?_, ?_⟩
  · simpa [Slot.goStale] using hun
  · simp [Slot.goStale]
  · simp [Slot.goStale]
  · exact fun hl => ⟨(hloss hl).1, .inr (.inr rfl)⟩
  · exact fun hp hd _ => hwatched hp hd (by simp)
  · exact fun hp => absurd (hparked hp).1 (by simp)

theorem goLost (h : x.Sound d power src r) (hl : x.loss.isSome = true) (hd : src = .none → d = none) :
    x.goLost.Sound d power src r := by
  have hdelay := (h.loss hl).1
  refine ⟨h.source, ?_, ?_, ?_, h.stamp, h.range, ?_, ?_, ?_, ?_⟩
  · simpa [Slot.goLost] using fun hs => hdelay (hd hs)
  · simp [Slot.goLost]
  · simp [Slot.goLost]
  · simp [Slot.goLost]
  · simp [Slot.goLost]
  · simp [Slot.goLost]
  · intro hp
    rw [(h.parked hp).2] at hl
    exact absurd hl (by simp)

theorem accept (h : x.Sound d .running src r) (hs : src ≠ .none) (v : Int) (t : Time) (timeout : Option Nat)
    (ht : timeout.isSome = d.isSome) : (x.accept r v t timeout).Sound d .running src r := by
  have hd : timeout.isSome = true ↔ d ≠ none := by rw [ht, Option.isSome_iff_ne_none]
  refine ⟨h.source, ?_, ?_, ?_, ?_, ?_, ?_, ?_, ?_, ?_⟩
  · simpa [Slot.accept] using hs
  · simp [Slot.accept]
  · simp [Slot.accept]
  · simp [Slot.accept]
  · intro w hw
    obtain rfl : clampRole r v = w := by simpa [Slot.accept] using hw
    exact roleMin_le_clampRole r v
  · simpa [Slot.accept] using hd
  · simpa [Slot.accept] using hd.1
  · simpa [Slot.accept] using hd.2
  · simp

/-- A slot set anew for its source (R27). -/
theorem ofSource (sxt : Vector SxtEntry 16) (power : Power) (src : Source) (r : Role) (t : Time) :
    (freshSlot sxt power src t).Sound (lossDelay sxt src) power src r := by
  have hloss : (awaitingLoss sxt power src t).isSome = true ↔ power = .running ∧ lossDelay sxt src ≠ none := by
    unfold awaitingLoss
    split <;> simp [*, Option.isSome_iff_ne_none]
  by_cases hs : src = .none
  · subst hs
    constructor <;> simp [freshSlot, awaitingLoss, lossDelay]
  · constructor <;> simp [freshSlot, hs, hloss]
    case watched => exact fun hp hd => ⟨hp, hd⟩
    case parked => exact fun hp => by simp [awaitingLoss, hp]

theorem parkedSlot (h : x.Sound d power src r) : x.parked.Sound d .parked src r := by
  have hm : x.mapped = true ↔ src ≠ .none := by simp [Slot.mapped, h.source]
  by_cases hs : src = .none <;> constructor <;> simp [Slot.parked, hm, hs, h.source]

theorem woken (h : x.Sound (lossDelay sxt src) .parked src r) (hm : x.mapped = true) (t : Time) :
    ({ x with state := .awaiting, value := none, stamp := none, fresh := none,
              loss := awaitingLoss sxt .running x.source t } : Slot).Sound (lossDelay sxt src) .running src r := by
  have hs : src ≠ .none := by simpa [Slot.mapped, h.source] using hm
  constructor <;> simp [hs, h.source, awaitingLoss, Option.isSome_iff_ne_none]

theorem unmappedWoken (h : x.Sound (lossDelay sxt src) .parked src r) (hm : x.mapped = false) :
    x.Sound (lossDelay sxt src) .running src r := by
  have hs : src = .none := by simpa [Slot.mapped, h.source] using hm
  subst hs
  exact ⟨h.source, h.unmapped, h.present, h.absent, h.stamp, h.range, h.fresh, h.loss, by simp [lossDelay], by simp⟩

theorem unhomed (h : x.Sound none power .encoder r) :
    ({ x with state := .awaiting, value := none, stamp := none, fresh := none, loss := none } : Slot).Sound none power
      .encoder r := by
  constructor <;> simp [h.source]

end Slot.Sound

/-! ### Every slot -/

/-- A source stands for every role of an enabled entry that is not inert (R23). -/
theorem sourceOf_of_enabled (sxt : Vector SxtEntry 16) (rec : Option MachineRecord) (i : Fin 16)
    (he : sxt[i].enabled = true) (hi : inertEntry rec sxt[i] = false) : ∃ j, sourceOf sxt rec sxt[i].role = .sxt j := by
  have hboom : ¬ (sxt[i].role = .boom ∧ encoderSelected rec = true) := by simpa [inertEntry] using hi
  unfold sourceOf
  rw [if_neg hboom]
  split
  · exact ⟨_, rfl⟩
  · rename_i hnone
    exact absurd (List.find?_eq_none.1 hnone i (List.mem_finRange i)) (by simpa using he)

namespace State.SlotsSound
variable {s t : State}

theorem congr (h : s.SlotsSound) (hg : t.sig = s.sig) (hr : t.wen.record = s.wen.record)
    (hp : t.din.power = s.din.power) :
    t.SlotsSound := by
  intro r
  have := h r
  rw [State.slotSound_iff] at this ⊢
  rwa [hg, hr, hp]

/-- Slots set anew are sound, whatever they were (R27). -/
theorem settled (s : State) (t : Time) : (s.settleSlots t).SlotsSound := by
  intro r
  rw [State.slotSound_iff]
  rw [State.settleSlots_slot]
  simpa using Slot.Sound.ofSource s.sig.sxt s.din.power (sourceOf s.sig.sxt s.wen.record r) r t

/-- One slot changed and kept sound. -/
theorem modSlot (h : s.SlotsSound) (r : Role) (f : Slot → Slot)
    (hf : ∀ d src, d = lossDelay s.sig.sxt src → (s.sig.slot r).Sound d s.din.power src r →
      (f (s.sig.slot r)).Sound d s.din.power src r) : (s.modSlot r f).SlotsSound := by
  intro q
  have hq := h q
  rw [State.slotSound_iff] at hq ⊢
  by_cases hqr : q = r
  · subst hqr
    simpa [State.modSlot] using hf _ _ rfl hq
  · simpa [State.modSlot, hqr] using hq

theorem accept (h : s.SlotsSound) (hp : s.din.power = .running) (r : Role) (v : Int) (x : Time) (timeout : Option Nat)
    (hs : sourceOf s.sig.sxt s.wen.record r ≠ .none)
    (ht : timeout.isSome = (lossDelay s.sig.sxt (sourceOf s.sig.sxt s.wen.record r)).isSome) :
    (s.acceptValue r v x timeout).SlotsSound := by
  intro q
  have hq := h q
  rw [State.slotSound_iff] at hq ⊢
  rw [State.acceptValue_slot]
  by_cases hqr : q = r
  · subst hqr
    rw [hp] at hq
    simpa [hp] using hq.accept hs v x timeout ht
  · simpa [hqr] using hq

/-- A value that an entry extracts is one of a mapped, frame-fed role while RUNNING (R23, R29). -/
theorem handedOff (h : s.SlotsSound) {bytes : List Byte} {i : Fin 16} {v : Int}
    (he : s.extraction s.sig.sxt[i] bytes = .value v) (x : Time) :
    (s.acceptValue s.sig.sxt[i].role v x (some s.sig.sxt[i].timeout)).SlotsSound := by
  unfold State.extraction at he
  split at he
  · cases he
  · rename_i hn
    simp only [not_or, Bool.not_eq_false, Bool.not_eq_true] at hn
    obtain ⟨henabled, hinert, hpower⟩ := hn
    obtain ⟨j, hj⟩ := sourceOf_of_enabled s.sig.sxt s.wen.record i henabled hinert
    have hrunning : s.din.power = .running := by
      cases hp : s.din.power with
      | running => rfl
      | parked => exact absurd hp hpower
    exact h.accept hrunning _ _ _ _ (by rw [hj]; simp) (by rw [hj]; rfl)

/-- The encoder's offer goes to a BOOM that it feeds (R35). -/
theorem offered (h : s.SlotsSound) {r : MachineRecord} (hr : s.wen.record = some r) (he : r.boomSource = .encoder)
    (hp : s.din.power = .running) (v : Int) (x : Time) : (s.acceptValue .boom v x none).SlotsSound := by
  have hs : sourceOf s.sig.sxt s.wen.record .boom = .encoder := by simp [sourceOf, encoderSelected, hr, he]
  exact h.accept hp _ _ _ _ (by simp [hs]) (by simp [hs, lossDelay])

theorem unhomed (h : s.SlotsSound) : s.boomUnhomed.SlotsSound := by
  unfold State.boomUnhomed
  split
  · rename_i hs
    intro q
    have hq := h q
    rw [State.slotSound_iff] at hq ⊢
    by_cases hqb : q = .boom
    · subst hqb
      have hsource : sourceOf s.sig.sxt s.wen.record .boom = .encoder := hq.source.symm.trans hs
      rw [hsource] at hq
      exact hsource ▸ hq.unhomed
    · cases q <;> first | exact hq | exact absurd rfl hqb
  · exact h

theorem park (h : s.SlotsSound) (x : Time) : (s.park x).SlotsSound := by
  have hwork : (s.parkWork x).SlotsSound := by
    intro r
    have hr := h r
    rw [State.slotSound_iff] at hr ⊢
    simpa [State.parkWork_wen, State.parkSlots_slot] using hr.parkedSlot
  rw [State.park_eq]
  exact hwork.congr (by simp) (by simp) (by simp)

theorem wake (h : s.SlotsSound) (hp : s.din.power = .parked) (x : Time) : (s.wake x).SlotsSound := by
  intro r
  have hr := h r
  rw [State.slotSound_iff] at hr ⊢
  rw [hp] at hr
  have hpower : (s.wake x).din.power = .running := by simp [State.wake]
  have hslot : (s.wake x).sig.slot r = (s.wakeSlots x).sig.slot r := by
    simp [State.wake, State.wakeSlots]
  rw [hslot, State.wakeSlots_slot]
  split
  · rename_i hm
    simpa [hpower] using hr.woken hm x
  · rename_i hm
    simpa [hpower] using hr.unmappedWoken (by simpa using hm)

end State.SlotsSound

theorem readersSlotsSound : Readers State.SlotsSound State.SlotsSound where
  weaken _ h := h
  testPoint _ _ _ h := State.SlotsSound.congr h (by simp) (by simp) (by simp)
  calPoint _ _ _ h := State.SlotsSound.congr h (by simp) (by simp) (by simp)
  evaluate _ _ h := State.SlotsSound.congr h (by simp) (by simp) (by simp)
  dumpEvent _ _ h := State.SlotsSound.congr h (by simp) (by simp) (by simp)
  tip _ _ h := State.SlotsSound.congr h rfl rfl rfl
  endWindow _ _ _ h := State.SlotsSound.congr h (by simp) (by simp) (by simp)
  interruptRun _ _ _ h := State.SlotsSound.congr h (by simp) (by simp) (by simp)
  applyDeferred _ _ h := State.SlotsSound.congr h (by simp) (by simp) (by simp)

/-- Each event keeps every slot sound. -/
theorem keptSlotsSound : Kept EveryRow State.SlotsSound where
  waiting _ _ _ h := State.SlotsSound.congr h rfl rfl rfl
  coldReset _ pins s := by
    intro r
    rw [State.slotSound_iff]
    have hsource : sourceOf Sig.cold.sxt Wen.cold.record r = .none := by cases r <;> rfl
    have hslot : Sig.cold.slot r = Slot.cold := by cases r <;> rfl
    simp only [State.cold, hsource, hslot]
    constructor <;> simp [Slot.cold, lossDelay]
  tick _ _ h := State.SlotsSound.congr h rfl rfl rfl
  offerE _ _ h := State.SlotsSound.congr h (by simp) (by simp) (by simp)
  latch _ _ h := State.SlotsSound.congr h rfl rfl rfl
  offerP _ _ h := State.SlotsSound.congr h (by simp) (by simp) (by simp)
  offerC _ _ h := State.SlotsSound.congr h (by simp) (by simp) (by simp)
  respond _ _ _ _ _ _ _ h := State.SlotsSound.congr h (by simp) (by simp) (by simp)
  free _ _ h := State.SlotsSound.congr h rfl rfl rfl
  handOff _ bytes t i s h := readersSlotsSound.handOff
    (fun r f s hf h => h.modSlot r f fun d src _ hx => by
      rcases hf with rfl | rfl
      · exact hx.flags _ _ _
      · exact hx.flags _ _ _)
    (fun bytes i v t s he h => h.handedOff he t) bytes t i h
  hold _ _ _ _ _ h := State.SlotsSound.congr h rfl rfl rfl
  drained _ _ h := State.SlotsSound.congr h rfl rfl rfl
  refill _ _ _ _ _ _ _ h := State.SlotsSound.congr h rfl rfl rfl
  fresh r _ s _ hv h := h.modSlot r _ fun _ _ _ hx => hx.goStale hv
  loss r x s hl h := readersSlotsSound.slotLost r x <| by
    refine (h.modSlot r Slot.goLost fun d src hd hx => ?_).congr (by simp) (by simp) (by simp)
    exact hx.goLost (by simp [hl]) (fun hs => by simp [hd, hs, lossDelay])
  timeout x s h := readersSlotsSound.timeout x h
  gauge x s _ h := State.SlotsSound.congr h (by simp) (by simp) (by simp)
  offerBoom _ x y s h := readersSlotsSound.offerBoom (fun r v t s hr he hp h => h.offered hr he hp v t) x
    (State.SlotsSound.congr h rfl rfl rfl)
  phases _ _ _ _ h := State.SlotsSound.congr h rfl rfl rfl
  phaseError qa qb s h := by
    unfold State.phaseError
    dsimp only
    split
    · have hdin : (s.modDin fun d => { d with
            qa := qa, qb := qb, phaseErrors := satAdd max16 d.phaseErrors 1, homing := .unhomed }).SlotsSound :=
        State.SlotsSound.congr h rfl rfl rfl
      exact hdin.unhomed.congr (by simp) (by simp) (by simp)
    · exact State.SlotsSound.congr h rfl rfl rfl
  index _ h := State.SlotsSound.congr h rfl rfl rfl
  line _ _ _ _ h := State.SlotsSound.congr h rfl rfl rfl
  dump t s h := readersSlotsSound.dump t h
  park t s _ h := h.park t
  wake t s hp h := h.wake hp t
  service s h := State.SlotsSound.congr h (by simp) (by simp) (by simp)
  arbiterTake _ _ _ _ h := State.SlotsSound.congr h rfl rfl rfl
  machineTake _ _ _ _ h := State.SlotsSound.congr h rfl rfl rfl
  cabSent _ _ _ h := State.SlotsSound.congr h rfl rfl rfl
  machineSent _ _ h := State.SlotsSound.congr h rfl rfl rfl
  failed _ _ _ h := State.SlotsSound.congr h (by simp) (by simp) (by simp)
  discarded _ _ _ _ h := State.SlotsSound.congr h (by simp) (by simp) (by simp)
  silenceEnd _ _ h := State.SlotsSound.congr h (by simp) (by simp) (by simp)
  reported _ _ _ s h := State.SlotsSound.congr h (by simp) (by simp) (by simp)
  mode _ _ _ m s _ h := State.SlotsSound.congr h (by simp) (by simp) (by simp)
  openLoad _ _ _ _ _ _ _ _ h := State.SlotsSound.congr h rfl rfl rfl
  loadData _ _ _ _ _ _ h := State.SlotsSound.congr h rfl rfl rfl
  failLoad _ _ _ h := State.SlotsSound.congr h rfl rfl rfl
  freeLoad _ h := State.SlotsSound.congr h rfl rfl rfl
  loadFat _ _ _ _ h := State.SlotsSound.congr h rfl rfl rfl
  loadSxt _ _ _ _ _ _ := State.SlotsSound.settled _ _
  loadRecord _ _ _ _ _ _ _ := (State.SlotsSound.settled _ _).congr (by rfl) (by rfl) (by rfl)
  loadCurve _ _ c xs s _ _ _ _ _ h := State.SlotsSound.congr h (by simp [State.setAssembly])
      (by simp [State.setAssembly])
    (by simp [State.setAssembly])
  loadBands _ _ _ _ h := State.SlotsSound.congr h rfl rfl rfl
  loadMaterials _ _ _ _ _ _ h := State.SlotsSound.congr h rfl rfl rfl
  loadLines _ _ _ _ h := State.SlotsSound.congr h rfl rfl rfl
  tare _ _ h := State.SlotsSound.congr h rfl rfl rfl
  cancelLast _ _ h := State.SlotsSound.congr h (by simp) (by simp) (by simp)
  nextTruck _ _ _ h := State.SlotsSound.congr h (by simp) (by simp) (by simp)
  shiftClose _ _ h := State.SlotsSound.congr h rfl rfl rfl
  target _ _ _ _ _ h := State.SlotsSound.congr h (by simp) (by simp) (by simp)
  material _ _ _ _ h := State.SlotsSound.congr h rfl rfl rfl
  holdChan _ _ h := State.SlotsSound.congr h rfl rfl rfl
  releaseChan _ _ h := State.SlotsSound.congr h rfl rfl rfl
  blockChan _ _ h := State.SlotsSound.congr h rfl rfl rfl
  unblockChan _ _ h := State.SlotsSound.congr h rfl rfl rfl
  toggle _ _ _ _ h := State.SlotsSound.congr h rfl rfl rfl
  capture _ _ _ h := State.SlotsSound.congr h rfl rfl rfl
  notices _ _ _ h := State.SlotsSound.congr h rfl rfl rfl
  clearAlerts _ _ h := State.SlotsSound.congr h rfl rfl rfl
  node _ _ _ h := State.SlotsSound.congr h rfl rfl rfl
  restart _ s _ := (State.SlotsSound.settled (s.endWork.modFcl Fcl.clearHolding) s.endWork.time).congr (by rfl) (by rfl)
    (by rfl)

/-- Settles O10: every event keeps source, state, value, range and expiries of every slot together. -/
theorem slotsStaySound : Obligations.SlotsStaySound := by
  unfold Obligations.SlotsStaySound
  exact fun _ _ h hs => keptSlotsSound.step h hs

end Sys2Proof.Machine
end

section
/-! ## The loads (O12) -/
namespace Sys2Proof.Machine

/-! ### What LAC's operations leave in LAC -/

/-- A load with OVERLOAD evaluated: the flag follows the limit, and the first crossing sets the marker (R131). -/
def Load.evaluated (l : Load) : Load :=
  if l.exceeds then { l with overload := true, alerted := true } else { l with overload := false }

/-- LAC with its load closed and the next one open (R134). -/
def Lac.closed (a : Lac) (by' : ClosedBy) (t : Time) : Lac :=
  { a with load := a.nextLoad t, completed := completedAfter a.completed ⟨a.load, t, by'⟩,
           totals := a.totals.addLoad a.load, nextMaterial := none }

/-- LAC with a load of 16 records closed AUTO first (R130). -/
def Lac.autoClosed (a : Lac) (t : Time) : Lac :=
  if a.load.buckets.length < Config.capBuckets then a else a.closed .auto t

/-- LAC with another bucket list on its load, and OVERLOAD evaluated. -/
def Lac.rebucketed (a : Lac) (bs : List BucketRecord) : Lac :=
  { a with load := (a.load.withBuckets bs).evaluated }

theorem State.evalOverload_lac (t : Time) (s : State) :
    (s.evalOverload t).lac = { s.lac with load := s.lac.load.evaluated } := by
  unfold State.evalOverload Load.evaluated
  cases h : s.lac.load.exceeds
  · simp [h]
  · cases ha : s.lac.load.alerted <;> simp [h, ha]

theorem State.closeLoadNow_lac (by' : ClosedBy) (t : Time) (s : State) :
    (s.closeLoadNow by' t).lac = s.lac.closed by' t := by
  simp [State.closeLoadNow, Lac.closed, Lac.nextLoad]

theorem State.nextTruck_lac (by' : ClosedBy) (t : Time) (s : State) :
    (s.nextTruck by' t).lac = if s.lac.load.buckets = [] then s.lac else s.lac.closed by' t := by
  unfold State.nextTruck
  split
  · rfl
  · exact State.closeLoadNow_lac by' t s

theorem State.cancelLast_lac (t : Time) (s : State) :
    (s.cancelLast t).lac =
      if s.lac.load.buckets = [] then s.lac else s.lac.rebucketed s.lac.load.buckets.dropLast := by
  unfold State.cancelLast
  split
  · rfl
  · simp [State.evalOverload_lac, Lac.rebucketed]

theorem State.autoClose_lac (t : Time) (s : State) : (s.autoClose t).lac = s.lac.autoClosed t := by
  unfold State.autoClose Lac.autoClosed
  split
  · rfl
  · simp [State.closeLoadNow_lac]

theorem State.addBucket_lac (h : HandedRecord) (t : Time) (s : State) :
    (s.addBucket h t).lac =
      (s.lac.autoClosed t).rebucketed ((s.lac.autoClosed t).load.buckets ++ [(s.autoClose t).bucketRecord h]) := by
  simp [State.addBucket, State.evalOverload_lac, State.appendBucket, State.autoClose_lac, Lac.rebucketed]

/-- What a dump event leaves in LAC but for the shift totals: a record joins the load, unless the event is ignored or a
tare pass (R116). -/
theorem State.dumpEvent_lac (t : Time) (s : State) :
    ∃ totals, (s.dumpEvent t).lac = { s.lac with totals := totals } ∨
      (s.dumpEvent t).lac =
        { ((s.endWindow .dumped t).addBucket ((s.endWindow .dumped t).cyt.handed t) t).lac with totals := totals } := by
  unfold State.dumpEvent
  split
  · unfold State.dumpRecord
    split
    · exact ⟨_, .inl (by simp [State.countTarePass]; rfl)⟩
    · exact ⟨_, .inr (by simp [State.countCycle]; rfl)⟩
  · exact ⟨s.lac.totals, .inl rfl⟩

/-- An evaluation changes LAC's shift totals at most. -/
theorem State.evaluate_lac (t : Time) (s : State) : ∃ totals, (s.evaluate t).lac = { s.lac with totals := totals } := by
  unfold State.evaluate State.cycleTo
  (repeat' split) <;> exact ⟨_, rfl⟩

/-! ### A sound load (R124, R131) -/

/-- `Load.Sound` but for OVERLOAD and its marker. -/
structure Load.Counted (l : Load) : Prop where
  records : l.buckets.length ≤ 16
  positions : ∀ i, i < l.buckets.length → (l.buckets[i]?).map (·.position) = some (i + 1)
  total : l.total = massSum l.buckets
  unweighed : l.unweighed = absentCount l.buckets
  incomplete : l.incomplete = true ↔ l.unweighed ≠ 0
  masses : ∀ b ∈ l.buckets, b.handed.mass.getD 0 ≤ 60000
  fills : ∀ b ∈ l.buckets, b.fill.getD 0 ≤ 2000
  number : 1 ≤ l.number ∧ l.number ≤ 4294967295

@[simp] theorem Load.evaluated_frame (l : Load) :
    l.evaluated.number = l.number ∧ l.evaluated.material = l.material ∧ l.evaluated.target = l.target ∧
    l.evaluated.tolerance = l.tolerance ∧ l.evaluated.buckets = l.buckets ∧ l.evaluated.total = l.total ∧
    l.evaluated.unweighed = l.unweighed ∧ l.evaluated.incomplete = l.incomplete ∧
    l.evaluated.openTime = l.openTime := by
  unfold Load.evaluated
  split <;> exact ⟨rfl, rfl, rfl, rfl, rfl, rfl, rfl, rfl, rfl⟩

theorem Load.evaluated_overload (l : Load) : l.evaluated.overload = l.exceeds := by
  unfold Load.evaluated
  split <;> simp [*]

theorem Load.Counted.evaluated {l : Load} (h : l.Counted) : l.evaluated.Sound where
  records := by simpa using h.records
  positions := by simpa using h.positions
  total := by simpa using h.total
  unweighed := by simpa using h.unweighed
  incomplete := by simpa using h.incomplete
  overload := by simp [Load.evaluated_overload, Load.exceeds]
  alerted := by
    unfold Load.evaluated
    split <;> simp
  masses := by simpa using h.masses
  fills := by simpa using h.fills
  number := by simpa using h.number

theorem Load.Sound.counted {l : Load} (h : l.Sound) : l.Counted :=
  ⟨h.records, h.positions, h.total, h.unweighed, h.incomplete, h.masses, h.fills, h.number⟩

/-- A load that opens empty (R134). -/
theorem Load.empty_sound (l : Load) (hb : l.buckets = []) (ht : l.total = 0) (hu : l.unweighed = 0)
    (hi : l.incomplete = false) (ho : l.overload = false) (hn : 1 ≤ l.number ∧ l.number ≤ 4294967295) : l.Sound where
  records := by simp [hb]
  positions := by simp [hb]
  total := by simp [hb, ht, massSum]
  unweighed := by simp [hb, hu, absentCount]
  incomplete := by simp [hi, hu]
  overload := by simp [ho, ht]
  alerted := by simp [ho]
  masses := by simp [hb]
  fills := by simp [hb]
  number := hn

/-- A load with one record fewer (R133). -/
theorem Load.Counted.dropLast {l : Load} (h : l.Counted) : (l.withBuckets l.buckets.dropLast).Counted where
  records := le_trans (by simp [Load.withBuckets]) h.records
  positions i hi := by
    have hi' : i < l.buckets.length - 1 := by simpa [Load.withBuckets] using hi
    have := h.positions i (by omega)
    have hget : l.buckets.dropLast[i]? = l.buckets[i]? := by rw [List.getElem?_dropLast, if_pos hi']
    rw [← hget] at this
    exact this
  total := rfl
  unweighed := rfl
  incomplete := by simp [Load.withBuckets]
  masses b hb := h.masses b (List.dropLast_subset _ hb)
  fills b hb := h.fills b (List.dropLast_subset _ hb)
  number := h.number

/-- A load with one record more (R128). -/
theorem Load.Counted.append {l : Load} (h : l.Counted) (hroom : l.buckets.length < 16) {b : BucketRecord}
    (hpos : b.position = l.buckets.length + 1) (hmass : b.handed.mass.getD 0 ≤ 60000) (hfill : b.fill.getD 0 ≤ 2000) :
    (l.withBuckets (l.buckets ++ [b])).Counted where
  records := by simpa [Load.withBuckets] using hroom
  positions i hi := by
    have hi' : i < l.buckets.length + 1 := by simpa [Load.withBuckets] using hi
    rcases Nat.lt_succ_iff_lt_or_eq.1 hi' with hlt | rfl
    · simpa [Load.withBuckets, List.getElem?_append_left hlt] using h.positions i hlt
    · simp [Load.withBuckets, hpos]
  total := rfl
  unweighed := rfl
  incomplete := by simp [Load.withBuckets]
  masses x hx := by
    rcases List.mem_append.1 hx with hx | hx
    · exact h.masses x hx
    · rwa [List.mem_singleton.1 hx]
  fills x hx := by
    rcases List.mem_append.1 hx with hx | hx
    · exact h.fills x hx
    · rwa [List.mem_singleton.1 hx]
  number := h.number

/-! ### LAC stays sound -/

theorem Lac.Sound.congr {a b : Lac} (h : a.Sound) (hl : b.load = a.load) (hc : b.completed = a.completed)
    (hm : b.materials = a.materials) (ht : b.target = a.target) (hto : b.tolerance = a.tolerance) : b.Sound where
  load := hl ▸ h.load
  target := by rw [hl, ht]; exact h.target
  tolerance := by rw [hl, hto]; exact h.tolerance
  count := hc ▸ h.count
  summaries := by rw [hc, hl]; exact h.summaries
  ordered := hc ▸ h.ordered
  densities := by rw [hm]; exact h.densities

/-- The current load replaced by a sound one of the same number and settings. -/
theorem Lac.Sound.withLoad {a : Lac} (h : a.Sound) {l : Load} (hl : l.Sound) (hn : l.number = a.load.number)
    (ht : l.target = a.load.target) (hto : l.tolerance = a.load.tolerance) : ({ a with load := l } : Lac).Sound where
  load := hl
  target := by rw [ht]; exact h.target
  tolerance := by rw [hto]; exact h.tolerance
  count := h.count
  summaries := by rw [hn]; exact h.summaries
  ordered := h.ordered
  densities := h.densities

/-- A closing files the load behind older ones of lower numbers, or empties the list at the number wrap (R134). -/
theorem Lac.Sound.closed {a : Lac} (h : a.Sound) (hb : a.load.buckets ≠ []) (by' : ClosedBy) (t : Time) :
    (a.closed by' t).Sound := by
  have hnum := h.load.number
  have hsome : ∀ x ∈ (if a.completed.length < Config.capCompleted then a.completed else a.completed.drop 1),
      x ∈ a.completed := by
    intro x hx
    split at hx
    · exact hx
    · exact List.mem_of_mem_drop hx
  by_cases hwrap : a.load.number = max32
  · exact
      { load := Load.empty_sound _ rfl rfl rfl rfl rfl (by simp [Lac.closed, Lac.nextLoad, hwrap])
        target := ⟨rfl, h.target.2⟩
        tolerance := ⟨rfl, h.tolerance.2⟩
        count := by simp [Lac.closed, completedAfter, hwrap]
        summaries := by simp [Lac.closed, completedAfter, hwrap]
        ordered := by simp [Lac.closed, completedAfter, hwrap]
        densities := h.densities }
  · have hlt : a.load.number < 4294967295 := lt_of_le_of_ne hnum.2 hwrap
    have hnext : (a.closed by' t).load.number = a.load.number + 1 := by simp [Lac.closed, Lac.nextLoad, hwrap]
    have hlist : (a.closed by' t).completed =
        (if a.completed.length < Config.capCompleted then a.completed else a.completed.drop 1) ++
          [⟨a.load, t, by'⟩] := by
      simp only [Lac.closed, completedAfter, if_neg hwrap]
    refine
      { load := Load.empty_sound _ rfl rfl rfl rfl rfl (by rw [hnext]; omega)
        target := ⟨rfl, h.target.2⟩
        tolerance := ⟨rfl, h.tolerance.2⟩
        count := ?_, summaries := ?_, ordered := ?_
        densities := h.densities }
    · have := h.count
      rw [hlist, List.length_append, List.length_singleton]
      by_cases hc : a.completed.length < 8
      · rw [if_pos (by exact hc)]
        omega
      · rw [if_neg (by exact hc), List.length_drop]
        omega
    · intro x hx
      rw [hnext]
      simp only [hlist, List.mem_append, List.mem_singleton] at hx
      rcases hx with hx | rfl
      · obtain ⟨h1, h2, h3⟩ := h.summaries x (hsome x hx)
        exact ⟨h1, h2, by omega⟩
      · exact ⟨h.load, hb, Nat.lt_succ_self _⟩
    · rw [hlist]
      refine List.pairwise_append.2 ⟨?_, by simp, ?_⟩
      · split
        · exact h.ordered
        · exact h.ordered.sublist (List.drop_sublist _ _)
      · intro x hx y hy
        rw [List.mem_singleton.1 hy]
        exact (h.summaries x (hsome x hx)).2.2

theorem Lac.Sound.autoClosed {a : Lac} (h : a.Sound) (t : Time) :
    (a.autoClosed t).Sound ∧ (a.autoClosed t).load.buckets.length < 16 := by
  unfold Lac.autoClosed
  split
  · exact ⟨h, by simpa [Config.capBuckets] using ‹_›⟩
  · rename_i hfull
    exact ⟨h.closed (fun hnil => hfull (by simp [hnil, Config.capBuckets])) _ _, by simp [Lac.closed, Lac.nextLoad]⟩

theorem Lac.Sound.rebucketed {a : Lac} (h : a.Sound) {bs : List BucketRecord} (hb : (a.load.withBuckets bs).Counted) :
    (a.rebucketed bs).Sound :=
  h.withLoad hb.evaluated (by simp [Load.withBuckets]) (by simp [Load.withBuckets]) (by simp [Load.withBuckets])

/-- A fill is at most 2,000 (R129). -/
theorem fillOf_le (mass rho volume : Nat) : fillOf mass rho volume ≤ 2000 := by
  unfold fillOf clamp
  omega

theorem getD_zero_le {o : Option Nat} {k : Nat} (h : ∀ x ∈ o, x ≤ k) : o.getD 0 ≤ k := by
  cases o with
  | none => exact Nat.zero_le k
  | some x => exact h x rfl

theorem State.bucketRecord_fill_le (h : HandedRecord) (s : State) : (s.bucketRecord h).fill.getD 0 ≤ 2000 := by
  refine getD_zero_le fun x hx => ?_
  obtain ⟨m, -, rfl⟩ := Option.mem_map.1 hx
  exact fillOf_le m _ _

theorem State.addBucket_sound {s : State} (h : s.lac.Sound) {r : HandedRecord} (hr : r.mass.getD 0 ≤ 60000) (t : Time) :
    (s.addBucket r t).lac.Sound := by
  obtain ⟨hauto, hroom⟩ := h.autoClosed t
  rw [State.addBucket_lac]
  refine hauto.rebucketed (hauto.load.counted.append hroom ?_ hr (State.bucketRecord_fill_le _ _))
  simp [State.bucketRecord, State.autoClose_lac]

/-! ### The mass that CYT holds (R111, R117) -/

/-- The mass of a result is limited to 60,000 kg (R76). -/
theorem Wen.result_mass_le (x : Wen) (w : Window) (e : Ending) (t : Time) :
    (x.result w e t).mass.getD 0 ≤ 60000 := by
  refine getD_zero_le fun m hm => ?_
  unfold Wen.result at hm
  dsimp only at hm
  split at hm
  · cases hm
  · cases hm
  · split at hm
    · obtain rfl : (clamp 0 60000 _).toNat = m := by simpa [Window.weighed] using hm
      unfold clamp
      split
      · simp
      · split
        · simp
        · omega
    · cases hm

/-- The record handed to LAC has the mass of the pending bucket (R117). -/
theorem Cyt.handed_mass (c : Cyt) (t : Time) : (c.handed t).mass = c.pending.bind (·.mass) := by
  unfold Cyt.handed
  cases c.pending <;> rfl

theorem Cyt.take_pending {c : Cyt} {r : WindowResult} (hc : ∀ p, c.pending = some p → p.mass.getD 0 ≤ 60000)
    (hr : r.mass.getD 0 ≤ 60000) : ∀ p, (c.take r).pending = some p → p.mass.getD 0 ≤ 60000 := by
  unfold Cyt.take
  split
  · split
    · intro p hp
      obtain rfl : r.pendingRecord c.pending.isSome = p := by simpa using hp
      exact hr
    · intro p hp
      cases hp
  · exact hc

namespace State.LoadsSound
variable {s t : State}

theorem congr (h : s.LoadsSound) (hl : t.lac = s.lac) (hp : t.cyt.pending = s.cyt.pending) : t.LoadsSound :=
  ⟨hl ▸ h.lac, by rw [hp]; exact h.pending⟩

/-- CYT with nothing pending. -/
theorem setAside (h : s.LoadsSound) (hl : t.lac = s.lac) (hp : t.cyt.pending = none) : t.LoadsSound :=
  ⟨hl ▸ h.lac, by simp [hp]⟩

theorem endWindow (h : s.LoadsSound) (e : Ending) (x : Time) : (s.endWindow e x).LoadsSound := by
  cases hw : s.wen.window with
  | none => rwa [State.endWindow_of_none hw]
  | some w =>
    refine ⟨by simpa using h.lac, ?_⟩
    rw [State.endWindow_cyt hw]
    exact Cyt.take_pending h.pending (Wen.result_mass_le _ _ _ _)

theorem changeMode (h : s.LoadsSound) (m : ModeTarget) (cause : NoticeCause) (x : Time) :
    (s.changeMode m cause x).LoadsSound := by
  by_cases hleave : s.mgt.mode = .run ∧ m.mode ≠ .run
  · exact h.setAside (by simp) (by simp [State.changeMode_cyt, hleave, Cyt.toIdle])
  · refine h.congr (by simp) ?_
    rw [State.changeMode_cyt, if_neg hleave]
    split <;> rfl

theorem applyDeferred (h : s.LoadsSound) (x : Time) : (s.applyDeferred x).LoadsSound := by
  rcases State.applyDeferred_cases x s with ⟨-, he⟩ | ⟨-, d, -, ⟨-, he⟩ | ⟨-, he⟩⟩ <;> rw [he]
  · exact h
  · exact changeMode (s := s.setDeferred none) (h.congr rfl rfl) _ _ _
  · exact h.congr rfl rfl

theorem testPoint (h : s.LoadsSound) (isHead : Bool) (x : Time) : (s.testPoint isHead x).LoadsSound := by
  refine State.testPoint_induct isHead x h ?_ ?_ ?_ ?_ ?_
  · exact fun _ r _ theta => h.congr (by simp) (by simp)
  · exact fun r s h _ => h.congr (by simp) (by simp)
  · exact fun w y s h _ => h.congr rfl rfl
  · exact fun e s h => h.endWindow e x
  · exact fun y s h => h.congr rfl rfl

theorem evaluate (h : s.LoadsSound) (x : Time) : (s.evaluate x).LoadsSound := by
  obtain ⟨totals, hl⟩ := s.evaluate_lac x
  have hp : (s.evaluate x).cyt.pending = s.cyt.pending ∨ (s.evaluate x).cyt.pending = none := by
    unfold State.evaluate State.cycleTo
    (repeat' split) <;> first | exact .inl rfl | exact .inr rfl
  refine ⟨hl ▸ h.lac.congr rfl rfl rfl rfl rfl, ?_⟩
  rcases hp with hp | hp <;> rw [hp]
  · exact h.pending
  · simp

theorem dumpEvent (h : s.LoadsSound) (x : Time) : (s.dumpEvent x).LoadsSound := by
  have hend := h.endWindow .dumped x
  have hmass : ((s.endWindow .dumped x).cyt.handed x).mass.getD 0 ≤ 60000 := by
    rw [Cyt.handed_mass]
    cases hp : (s.endWindow .dumped x).cyt.pending with
    | none => exact Nat.zero_le _
    | some p => exact hend.pending p hp
  have hp : (s.dumpEvent x).cyt.pending = s.cyt.pending ∨ (s.dumpEvent x).cyt.pending = none := by
    unfold State.dumpEvent
    split
    · exact .inr rfl
    · exact .inl rfl
  constructor
  · obtain ⟨totals, hl | hl⟩ := s.dumpEvent_lac x <;> rw [hl]
    · exact h.lac.congr rfl rfl rfl rfl rfl
    · exact (State.addBucket_sound hend.lac hmass x).congr rfl rfl rfl rfl rfl
  · rcases hp with hp | hp <;> rw [hp]
    · exact h.pending
    · simp

/-- LAC replaced by a sound one. -/
theorem withLac (h : s.LoadsSound) (hl : t.lac.Sound) (hc : t.cyt = s.cyt) : t.LoadsSound :=
  ⟨hl, by rw [hc]; exact h.pending⟩

theorem nextTruck (h : s.LoadsSound) (by' : ClosedBy) (x : Time) : (s.nextTruck by' x).LoadsSound := by
  refine h.withLac ?_ (by simp)
  rw [State.nextTruck_lac]
  split
  · exact h.lac
  · exact h.lac.closed ‹_› _ _

theorem cancelLast (h : s.LoadsSound) (x : Time) : (s.cancelLast x).LoadsSound := by
  refine h.withLac ?_ (by simp)
  rw [State.cancelLast_lac]
  split
  · exact h.lac
  · exact h.lac.rebucketed h.lac.load.counted.dropLast

theorem target (h : s.LoadsSound) {target tolerance : Nat} (ht : targetOk target tolerance = true) (x : Time) :
    ((s.modLac fun a => a.withTarget target tolerance).evalOverload x).LoadsSound := by
  simp only [targetOk, Bool.and_eq_true, decide_eq_true_eq] at ht
  have hcounted := h.lac.load.counted
  refine h.withLac ?_ (by simp)
  rw [State.evalOverload_lac]
  exact
    { load := Load.Counted.evaluated ⟨hcounted.records, hcounted.positions, hcounted.total, hcounted.unweighed,
        hcounted.incomplete, hcounted.masses, hcounted.fills, hcounted.number⟩
      target := by simpa [Lac.withTarget] using ht.1
      tolerance := by simpa [Lac.withTarget] using ht.2
      count := h.lac.count
      summaries := by simpa [Lac.withTarget] using h.lac.summaries
      ordered := h.lac.ordered
      densities := h.lac.densities }

theorem material (h : s.LoadsSound) (k : Fin 16) : (s.modLac fun a => a.chooseMaterial k).LoadsSound := by
  refine h.withLac ?_ rfl
  simp only [State.modLac, Lac.chooseMaterial]
  split
  · have hl := h.lac.load
    exact (h.lac.withLoad (l := { s.lac.load with material := k }) ⟨hl.records, hl.positions, hl.total, hl.unweighed,
      hl.incomplete, hl.overload, hl.alerted, hl.masses, hl.fills, hl.number⟩ rfl rfl rfl).congr rfl rfl rfl rfl rfl
  · exact h.lac.congr rfl rfl rfl rfl rfl

end State.LoadsSound

/-! ### A run written into a table -/

theorem writeRun_getElem {α : Type} {n : Nat} (v : Vector α n) (first : Nat) (xs : List α) (i : Nat) (hi : i < n) :
    (writeRun v first xs)[i] = if first ≤ i then xs.getD (i - first) v[i] else v[i] := by
  induction xs generalizing v first with
  | nil => simp [writeRun]
  | cons x xs ih =>
    rw [writeRun, ih, Vector.getElem_setIfInBounds]
    rcases lt_trichotomy first i with hlt | rfl | hgt
    · have hsub : i - first = (i - (first + 1)) + 1 := by omega
      simp [hlt.le, Nat.succ_le_of_lt hlt, hsub, hlt.ne]
    · simp
    · simp [hgt.ne', Nat.not_le.2 hgt, show ¬ first + 1 ≤ i by omega]

/-- What holds of every written entry and of the entries in place holds of the table. -/
theorem writeRun_forall {α : Type} {n : Nat} {Q : Nat → α → Prop} (v : Vector α n) (first : Nat) (xs : List α)
    (hv : ∀ (i : Nat) (hi : i < n), Q i v[i]) (hxs : ∀ j x, xs[j]? = some x → Q (first + j) x) (i : Nat) (hi : i < n) :
    Q i (writeRun v first xs)[i] := by
  rw [writeRun_getElem]
  split
  · rename_i hle
    rw [List.getD_eq_getElem?_getD]
    cases hx : xs[i - first]? with
    | none => exact hv i hi
    | some x =>
      have := hxs _ _ hx
      rwa [Nat.add_sub_cancel' hle] at this
  · exact hv i hi

theorem Lac.materialOk_range {a : Lac} {k rho : Nat} (h : a.materialOk k rho = true) :
    rho = 0 ∨ 500 ≤ rho ∧ rho ≤ 5000 := by
  simp only [Lac.materialOk, within, Bool.and_eq_true, Bool.or_eq_true, decide_eq_true_eq] at h
  omega

theorem State.LoadsSound.loadMaterials {s : State} (h : s.LoadsSound) {first : Nat} {cs : List (List Byte)}
    {xs : List Nat} (hc : checkRun decodeMaterial (fun i rho => s.lac.materialOk i rho) first cs = .ok xs) :
    (s.modLac fun a => { a with materials := writeRun a.materials first xs }).LoadsSound := by
  refine h.withLac ?_ rfl
  have hrange : ∀ j x, xs[j]? = some x → x = 0 ∨ 500 ≤ x ∧ x ≤ 5000 := fun j x hx =>
    Lac.materialOk_range ((checkRun_eq_ok hc).2 j x hx)
  exact
    { load := h.lac.load, target := h.lac.target, tolerance := h.lac.tolerance, count := h.lac.count
      summaries := h.lac.summaries, ordered := h.lac.ordered
      densities := fun k => writeRun_forall (Q := fun _ x => x = 0 ∨ 500 ≤ x ∧ x ≤ 5000) _ _ _
        (fun i hi => h.lac.densities ⟨i, hi⟩) hrange k.val k.isLt }

theorem readersLoadsSound : Readers State.LoadsSound State.LoadsSound where
  weaken _ h := h
  testPoint b t _ h := h.testPoint b t
  calPoint b t _ h := State.calPoint_induct b t h (fun _ h => h.congr (by simp) (by simp))
      (fun _ _ h => h.congr rfl rfl)
    (fun _ _ h => h.congr (by simp) (by simp)) (fun _ _ _ h => h.congr (by simp) (by simp))
    (fun _ h => h.changeMode _ _ _)
  evaluate t _ h := h.evaluate t
  dumpEvent t _ h := h.dumpEvent t
  tip _ _ h := h.congr rfl rfl
  endWindow e t _ h := h.endWindow e t
  interruptRun _ _ _ h := h.congr (by simp) (by simp)
  applyDeferred t _ h := h.applyDeferred t

/-- Each event keeps the loads sound. -/
theorem keptLoadsSound : Kept EveryRow State.LoadsSound where
  waiting _ _ _ h := h.congr rfl rfl
  coldReset _ _ _ :=
    ⟨{ load := Load.empty_sound _ rfl rfl rfl rfl rfl
         (by simp [State.cold, Lac.cold, Load.cold]), target := ⟨rfl, Nat.zero_le _⟩
       tolerance := ⟨rfl, Nat.zero_le _⟩, count := Nat.zero_le _, summaries := fun _ hx => nomatch hx
       ordered := .nil, densities := fun k => .inl (by simp [State.cold, Lac.cold]) },
      fun _ hp => nomatch hp⟩
  tick _ _ h := h.congr rfl rfl
  offerE _ _ h := h.congr (by simp) (by simp)
  latch _ _ h := h.congr rfl rfl
  offerP _ _ h := h.congr (by simp) (by simp)
  offerC _ _ h := h.congr (by simp) (by simp)
  respond _ _ _ _ _ _ _ h := h.congr (by simp) (by simp)
  free _ _ h := h.congr rfl rfl
  handOff _ bytes t i _ h := readersLoadsSound.handOff (fun _ _ _ _ h => h.congr rfl rfl)
    (fun _ _ _ _ _ _ h => h.congr (by simp) (by simp)) bytes t i h
  hold _ _ _ _ _ h := h.congr rfl rfl
  drained _ _ h := h.congr rfl rfl
  refill _ _ _ _ _ _ _ h := h.congr rfl rfl
  fresh _ _ _ _ _ h := h.congr rfl rfl
  loss r x _ _ h := readersLoadsSound.slotLost r x (h.congr (by simp) (by simp))
  timeout x _ h := readersLoadsSound.timeout x h
  gauge x _ _ h := h.congr (by simp) (by simp)
  offerBoom _ x _ s h := readersLoadsSound.offerBoom (fun _ _ _ _ _ _ _ h => h.congr (by simp) (by simp)) x
    (by exact h.congr rfl rfl)
  phases _ _ _ _ h := h.congr rfl rfl
  phaseError _ _ _ h := h.congr (by simp) (by simp)
  index _ h := h.congr rfl rfl
  line _ _ _ _ h := h.congr rfl rfl
  dump t _ h := readersLoadsSound.dump t h
  park t s _ h := State.LoadsSound.applyDeferred (s := s.parkWork t) (h.setAside (by simp) (by simp [Cyt.toIdle])) t
  wake t s _ h := h.congr (by simp) (by simp [State.wake])
  service _ h := h.congr (by simp) (by simp)
  arbiterTake _ _ _ _ h := h.congr rfl rfl
  machineTake _ _ _ _ h := h.congr rfl rfl
  cabSent _ _ _ h := h.congr rfl rfl
  machineSent _ _ h := h.congr rfl rfl
  failed _ _ _ h := h.congr (by simp) (by simp)
  discarded _ _ _ _ h := h.congr (by simp) (by simp)
  silenceEnd _ _ h := h.congr (by simp) (by simp)
  reported _ _ _ _ h := h.congr (by simp) (by simp)
  mode _ _ _ m s _ h := by
    rcases State.requestMode_cases m s with he | ⟨d, he⟩ | he <;> rw [he]
    · exact h
    · exact h.congr rfl rfl
    · exact h.changeMode _ _ _
  openLoad _ _ _ _ _ _ _ _ h := h.congr rfl rfl
  loadData _ _ _ _ _ _ h := h.congr rfl rfl
  failLoad _ _ _ h := h.congr rfl rfl
  freeLoad _ h := h.congr rfl rfl
  loadFat _ _ _ _ h := h.congr rfl rfl
  loadSxt _ _ _ _ _ h := h.congr rfl rfl
  loadRecord _ _ _ _ _ _ h := h.congr rfl rfl
  loadCurve _ _ c xs s _ _ _ _ _ h := h.congr (by simp [State.setAssembly]) (by simp [State.setAssembly])
  loadBands _ _ _ _ h := h.congr rfl rfl
  loadMaterials _ _ _ _ _ hc h := h.loadMaterials hc
  loadLines _ _ _ _ h := h.congr rfl rfl
  tare _ _ h := h.congr rfl rfl
  cancelLast t _ h := h.cancelLast t
  nextTruck b t _ h := h.nextTruck b t
  shiftClose _ _ h := h.withLac (h.lac.congr rfl rfl rfl rfl rfl) rfl
  target _ _ t _ ht h := h.target ht t
  material _ k _ _ h := h.material k
  holdChan _ _ h := h.congr rfl rfl
  releaseChan _ _ h := h.congr rfl rfl
  blockChan _ _ h := h.congr rfl rfl
  unblockChan _ _ h := h.congr rfl rfl
  toggle _ _ _ _ h := h.congr rfl rfl
  capture _ _ _ h := h.congr rfl rfl
  notices _ _ _ h := h.congr rfl rfl
  clearAlerts _ _ h := h.congr rfl rfl
  node _ _ _ h := h.congr rfl rfl
  restart _ s h := State.LoadsSound.setAside h (by simp [State.warmValues, State.endWork])
    (by simp [State.warmValues, State.endWork, Cyt.toIdle])

/-- Settles O12: every event keeps the current load, the completed list and the densities sound. -/
theorem loadsStaySound : Obligations.LoadsStaySound := by
  unfold Obligations.LoadsStaySound
  exact fun _ _ h hs => keptLoadsSound.step h hs

end Sys2Proof.Machine
end

section
/-! ## What RUN and CALIBRATE rest on stays true (O9) -/
namespace Sys2Proof.Machine

/-- What the conditions of entering RUN and CALIBRATE are read from. -/
def State.readiness (s : State) :
    Mode × Bool × Bool × Bool × CurveState × Bool × Vector Nat 16 × Fin 16 × Option (Fin 16) :=
  (s.mgt.mode, s.wen.record.isSome, s.sig.head.mapped, s.sig.boom.mapped, s.wen.curveState, anyBandUsed s.wen.bands,
    s.lac.materials, s.lac.load.material, s.lac.nextMaterial)

/-- No condition of CALIBRATE fails (R85). -/
theorem State.calibrateBlock_eq_none (s : State) :
    s.calibrateBlock = none ↔ s.wen.record.isSome = true ∧ s.sig.head.mapped = true ∧ s.sig.boom.mapped = true := by
  unfold State.calibrateBlock
  cases s.wen.record <;> cases s.sig.head.mapped <;> cases s.sig.boom.mapped <;> simp

/-- No condition of RUN fails (R201). -/
theorem State.runBlock_eq_none (s : State) :
    s.runBlock = none ↔ s.calibrateBlock = none ∧ s.wen.curveState = .valid ∧ anyBandUsed s.wen.bands = true ∧
      s.lac.materialUsed = true := by
  rw [State.calibrateBlock_eq_none]
  unfold State.runBlock
  by_cases hv : s.wen.curveState = .valid <;>
    cases s.wen.record <;> cases s.sig.head.mapped <;> cases s.sig.boom.mapped <;>
    cases anyBandUsed s.wen.bands <;> cases s.lac.materialUsed <;> simp [hv]

theorem Wen.curveState_congr {w x : Wen} (he : x.curveE = w.curveE) (hl : x.curveL = w.curveL) :
    x.curveState = w.curveState := by
  unfold Wen.curveState
  rw [he, hl]

/-- Outside CALIBRATE a calibration has no test point (R88). -/
theorem State.calPoint_of_ne {s : State} (h : s.mgt.mode ≠ .calibrate) (isHead : Bool) (t : Time) :
    s.calPoint isHead t = s := by
  simp [State.calPoint, h]

/-! ### The materials in use (R126) -/

/-- A stored next material is used, and in RUN so is the current one. -/
structure Lac.Ready (a : Lac) (run : Prop) : Prop where
  current : run → a.materialUsed = true
  next : ∀ k, a.nextMaterial = some k → a.materials[k] ≠ 0

theorem Lac.materialUsed_iff (a : Lac) : a.materialUsed = true ↔ a.materials[a.load.material] ≠ 0 := by
  simp [Lac.materialUsed]

namespace Lac.Ready
variable {a b : Lac} {run : Prop}

theorem congr (h : a.Ready run) (hm : b.materials = a.materials) (hl : b.load.material = a.load.material)
    (hn : b.nextMaterial = a.nextMaterial) : b.Ready run := by
  have hused : b.materialUsed = a.materialUsed := by simp [Lac.materialUsed, hm, hl]
  exact ⟨by rw [hused]; exact h.current, by rw [hm, hn]; exact h.next⟩

/-- The load that opens takes the next material, or keeps the current one (R134). -/
theorem closed (h : a.Ready run) (by' : ClosedBy) (t : Time) : (a.closed by' t).Ready run := by
  refine ⟨fun hr => ?_, fun k hk => nomatch hk⟩
  have hcur := a.materialUsed_iff.1 (h.current hr)
  rw [Lac.materialUsed_iff]
  have hnext : ∀ k : Fin 16, k = a.nextMaterial.getD a.load.material → a.materials[k] ≠ 0 := fun k hk => by
    cases hn : a.nextMaterial with
    | none => simpa [hk, hn] using hcur
    | some j => simpa [hk, hn] using h.next j hn
  exact hnext _ rfl

theorem autoClosed (h : a.Ready run) (t : Time) : (a.autoClosed t).Ready run := by
  unfold Lac.autoClosed
  split
  · exact h
  · exact h.closed _ _

/-- A material is chosen only when it is used (R136). -/
theorem chooseMaterial (h : a.Ready run) {index : Nat} {k : Fin 16} (hk : a.usedMaterial index = some k) :
    (a.chooseMaterial k).Ready run := by
  have hused : a.materials[k] ≠ 0 := by
    unfold Lac.usedMaterial at hk
    split at hk
    · split at hk
      · cases hk
        assumption
      · cases hk
    · cases hk
  unfold Lac.chooseMaterial
  split
  · exact ⟨fun _ => Lac.materialUsed_iff _ |>.2 hused, fun _ hn => nomatch hn⟩
  · exact ⟨h.current, fun j hj => by cases hj; exact hused⟩

/-- A used material that is in use is not made unused by a MATERIAL load (R126). -/
theorem materials (h : a.Ready run) {first : Nat} {xs : List Nat}
    (hxs : ∀ j x, xs[j]? = some x → a.materialOk (first + j) x = true) :
    ({ a with materials := writeRun a.materials first xs } : Lac).Ready run := by
  have hkeep : ∀ k : Fin 16, a.inUse k.val = true → a.materials[k] ≠ 0 → (writeRun a.materials first xs)[k] ≠ 0 := by
    intro k huse hused
    have hlist : a.materials.toList.getD k.val 0 = a.materials[k] := by simp [List.getD_eq_getElem?_getD]
    refine writeRun_forall (Q := fun i x => i = k.val → x ≠ 0) a.materials first xs ?_ ?_ k.val k.isLt rfl
    · rintro i hi rfl
      exact hused
    · intro j x hx hjk hzero
      have := hxs j x hx
      rw [hjk, hzero] at this
      simp only [Lac.materialOk, huse, hlist, decide_true, Bool.true_or, Bool.true_and, Bool.not_eq_true',
        decide_eq_false_iff_not] at this
      exact this hused
  constructor
  · intro hr
    rw [Lac.materialUsed_iff]
    exact hkeep _ (by simp [Lac.inUse]) (a.materialUsed_iff.1 (h.current hr))
  · intro k hk
    exact hkeep k (by simp [Lac.inUse, show a.nextMaterial = some k from hk]) (h.next k hk)

end Lac.Ready

namespace State.ReadySound
variable {s t : State}

theorem congr (h : s.ReadySound) (e : t.readiness = s.readiness) : t.ReadySound := by
  simp only [State.readiness, Prod.mk.injEq] at e
  obtain ⟨hmode, hrec, hhead, hboom, hcurve, hband, hmat, hload, hnext⟩ := e
  have hused : t.lac.materialUsed = s.lac.materialUsed := by simp [Lac.materialUsed, hmat, hload]
  constructor
  · rw [hmode, hrec]; exact h.record
  · rw [hmode, hhead]; exact h.head
  · rw [hmode, hboom]; exact h.boom
  · rw [hmode, hcurve]; exact h.curves
  · rw [hmode, hband]; exact h.bands
  · rw [hmode, hused]; exact h.material
  · rw [hmat, hnext]; exact h.nextMaterial

/-- In CONFIG only the next material matters. -/
theorem config (h : s.ReadySound) (hm : t.mgt.mode = .config) (hmat : t.lac.materials = s.lac.materials)
    (hnext : t.lac.nextMaterial = s.lac.nextMaterial) : t.ReadySound := by
  constructor
  case nextMaterial => rw [hmat, hnext]; exact h.nextMaterial
  all_goals simp [hm]

/-- A change of mode whose conditions hold (R85, R200, R201). -/
theorem changeMode (h : s.ReadySound) {m : ModeTarget} (hcal : m.mode ≠ .config → s.calibrateBlock = none)
    (hrun : m.mode = .run → s.runBlock = none) (cause : NoticeCause) (x : Time) :
    (s.changeMode m cause x).ReadySound := by
  have hblock := fun hm => s.calibrateBlock_eq_none.1 (hcal hm)
  have hready := fun hm => (s.runBlock_eq_none.1 (hrun hm)).2
  have hcurve : (s.changeMode m cause x).wen.curveState = s.wen.curveState := Wen.curveState_congr (by simp) (by simp)
  constructor
  · simpa using fun hm => (hblock hm).1
  · simpa using fun hm => (hblock hm).2.1
  · simpa using fun hm => (hblock hm).2.2
  · rw [hcurve]
    simpa using fun hm => (hready hm).1
  · simpa using fun hm => (hready hm).2.1
  · simpa using fun hm => (hready hm).2.2
  · simpa using h.nextMaterial

theorem applyDeferred (h : s.ReadySound) (x : Time) : (s.applyDeferred x).ReadySound := by
  rcases State.applyDeferred_cases x s with ⟨-, he⟩ | ⟨-, d, -, ⟨hor, he⟩ | ⟨-, he⟩⟩ <;> rw [he]
  · exact h
  · refine changeMode (s := s.setDeferred none) (h.congr rfl) ?_ ?_ _ _
    · exact fun hm => hor.elim (fun hd => absurd (by simp [hd, Deferred.target, ModeTarget.mode]) hm) id
    · intro hm
      cases d <;> simp [Deferred.target, ModeTarget.mode] at hm
  · exact h.congr rfl

/-- LAC replaced by one whose materials are used. -/
theorem withLac (h : s.ReadySound) (hl : t.lac.Ready (s.mgt.mode = .run))
    (e : (t.mgt.mode, t.wen.record.isSome, t.sig.head.mapped, t.sig.boom.mapped, t.wen.curveState,
        anyBandUsed t.wen.bands) =
      (s.mgt.mode, s.wen.record.isSome, s.sig.head.mapped, s.sig.boom.mapped, s.wen.curveState,
        anyBandUsed s.wen.bands)) : t.ReadySound := by
  simp only [Prod.mk.injEq] at e
  obtain ⟨hmode, hrec, hhead, hboom, hcurve, hband⟩ := e
  constructor
  · rw [hmode, hrec]; exact h.record
  · rw [hmode, hhead]; exact h.head
  · rw [hmode, hboom]; exact h.boom
  · rw [hmode, hcurve]; exact h.curves
  · rw [hmode, hband]; exact h.bands
  · rw [hmode]; exact hl.current
  · exact hl.next

theorem lac (h : s.ReadySound) : s.lac.Ready (s.mgt.mode = .run) := ⟨h.material, h.nextMaterial⟩

theorem dumpEvent (h : s.ReadySound) (x : Time) : (s.dumpEvent x).ReadySound := by
  refine h.withLac ?_ (by simp [Wen.curveState])
  obtain ⟨totals, hl | hl⟩ := s.dumpEvent_lac x <;> rw [hl]
  · exact h.lac.congr rfl rfl rfl
  · rw [State.addBucket_lac]
    have hauto : ((s.endWindow .dumped x).lac.autoClosed x).Ready (s.mgt.mode = .run) := by
      rw [show (s.endWindow .dumped x).lac = s.lac by simp]
      exact h.lac.autoClosed x
    exact hauto.congr rfl (by simp [Lac.rebucketed, Load.withBuckets]) rfl

theorem nextTruck (h : s.ReadySound) (by' : ClosedBy) (x : Time) : (s.nextTruck by' x).ReadySound := by
  refine h.withLac ?_ (by simp)
  rw [State.nextTruck_lac]
  split
  · exact h.lac
  · exact h.lac.closed _ _

theorem calPoint (h : s.ReadySound) (isHead : Bool) (x : Time) : (s.calPoint isHead x).ReadySound := by
  by_cases hm : s.mgt.mode = .calibrate
  · have hw : s.mgt.mode ≠ .run ∧ s.ReadySound := ⟨by simp [hm], h⟩
    refine (State.calPoint_induct (W := fun s => s.mgt.mode ≠ .run ∧ s.ReadySound) isHead x hw ?_ ?_ ?_ ?_ ?_).2
    · exact fun s h => ⟨by simpa using h.1, h.2.congr (by simp [State.readiness, Wen.curveState])⟩
    · exact fun c s h => ⟨h.1, h.2.congr rfl⟩
    · exact fun f s h => ⟨by simpa using h.1, h.2.congr (by simp [State.readiness])⟩
    · intro c v s h
      refine ⟨by simpa using h.1, ?_⟩
      constructor
      · simpa using h.2.record
      · simpa using h.2.head
      · simpa using h.2.boom
      · exact fun hr => absurd (by simpa using hr) h.1
      · simpa using h.2.bands
      · simpa using h.2.material
      · simpa using h.2.nextMaterial
    · exact fun s h => ⟨by simp [ModeTarget.mode], h.2.config (by simp [ModeTarget.mode]) (by simp) (by simp)⟩
  · rwa [State.calPoint_of_ne hm]

theorem loadMaterials (h : s.ReadySound) {first : Nat} {cs : List (List Byte)}
    {xs : List Nat} (hc : checkRun decodeMaterial (fun i rho => s.lac.materialOk i rho) first cs = .ok xs) :
    (s.modLac fun a => { a with materials := writeRun a.materials first xs }).ReadySound := by
  refine h.withLac ?_ rfl
  exact h.lac.materials (checkRun_eq_ok hc).2

/-- The slots changed with their sources kept. -/
theorem slots (h : s.ReadySound) (hg : ∀ q, (t.sig.slot q).mapped = (s.sig.slot q).mapped)
    (e : (t.mgt.mode, t.wen.record.isSome, t.wen.curveState, anyBandUsed t.wen.bands, t.lac) =
      (s.mgt.mode, s.wen.record.isSome, s.wen.curveState, anyBandUsed s.wen.bands, s.lac)) : t.ReadySound := by
  simp only [Prod.mk.injEq] at e
  obtain ⟨hmode, hrec, hcurve, hband, hlac⟩ := e
  exact h.congr (by simp only [State.readiness, hmode, hrec, hcurve, hband, hlac,
    show t.sig.head.mapped = s.sig.head.mapped from hg .head, show t.sig.boom.mapped = s.sig.boom.mapped from hg .boom])

theorem accept (h : s.ReadySound) (r : Role) (v : Int) (x : Time) (timeout : Option Nat) :
    (s.acceptValue r v x timeout).ReadySound := by
  refine h.slots (fun q => ?_) (by simp)
  rw [State.acceptValue_slot]
  split
  · rename_i hq
    rw [hq]
    rfl
  · rfl

theorem mode (h : s.ReadySound) (m : ModeTarget) : (s.requestMode m).state.ReadySound := by
  have hset : ∀ d, (s.setDeferred d).ReadySound := fun d => h.congr rfl
  have hchange : ∀ block, (m.mode ≠ .config → block = none → s.calibrateBlock = none) →
      (m.mode = .run → block = none → s.runBlock = none) → (s.changeUnless block m).state.ReadySound := by
    intro block hcal hrun
    unfold State.changeUnless
    split
    · exact h.changeMode (fun hm => hcal hm rfl) (fun hm => hrun hm rfl) _ _
    · exact h
  unfold State.requestMode
  split
  · cases m <;> exact hset _
  · cases m with
    | config =>
      dsimp only
      split
      · exact h
      · exact hchange _ (by simp [ModeTarget.mode]) (by simp [ModeTarget.mode])
    | run =>
      dsimp only
      split
      · exact h
      · exact hchange _ (fun _ hb => (s.runBlock_eq_none.1 hb).1) (fun _ hb => hb)
    | calibrate c r => exact hchange _ (fun _ hb => hb) (by simp [ModeTarget.mode])

end State.ReadySound

theorem readersReadySound : Readers State.ReadySound State.ReadySound where
  weaken _ h := h
  testPoint _ _ _ h := h.congr (by simp [State.readiness, Wen.curveState])
  calPoint b t _ h := h.calPoint b t
  evaluate t s h := by
    obtain ⟨totals, hl⟩ := s.evaluate_lac t
    exact h.congr (by simp [State.readiness, Wen.curveState, hl])
  dumpEvent t _ h := h.dumpEvent t
  tip _ _ h := h.congr rfl
  endWindow _ _ _ h := h.congr (by simp [State.readiness, Wen.curveState])
  interruptRun _ _ _ h := h.congr (by simp [State.readiness, Wen.curveState])
  applyDeferred t _ h := h.applyDeferred t

/-- SIG's work on a slot keeps its source, and so whether it is mapped. -/
theorem Sig.mapped_setSlot (g : Sig) (r q : Role) (x : Slot) (hx : x.source = (g.slot r).source) :
    ((g.setSlot r x).slot q).mapped = (g.slot q).mapped := by
  by_cases hq : q = r
  · subst hq
    simp [Slot.mapped, hx]
  · rw [Sig.slot_setSlot_ne hq]

/-- Each event keeps the conditions of RUN and CALIBRATE. -/
theorem keptReadySound : Kept EveryRow State.ReadySound where
  waiting _ _ _ h := h.congr rfl
  coldReset _ _ _ := by constructor <;> simp [State.cold, Mgt.cold, Lac.cold]
  tick _ _ h := h.congr rfl
  offerE _ _ h := h.congr (by simp [State.readiness])
  latch _ _ h := h.congr rfl
  offerP _ _ h := h.congr (by simp [State.readiness])
  offerC _ _ h := h.congr (by simp [State.readiness])
  respond _ _ _ _ _ _ _ h := h.congr (by simp [State.readiness])
  free _ _ h := h.congr rfl
  handOff _ bytes t i _ h := readersReadySound.handOff
    (fun r f s hf h => h.slots (fun q => by rcases hf with rfl | rfl <;> exact Sig.mapped_setSlot _ _ _ _ rfl) rfl)
    (fun bytes i v t s _ h => h.accept _ _ _ _) bytes t i h
  hold _ _ _ _ _ h := h.congr rfl
  drained _ _ h := h.congr rfl
  refill _ _ _ _ _ _ _ h := h.congr rfl
  fresh r _ s _ _ h := h.slots (fun q => Sig.mapped_setSlot _ _ _ _ rfl) rfl
  loss r x s _ h := readersReadySound.slotLost r x <| by
    have hlost : (s.modSlot r Slot.goLost).ReadySound := h.slots (fun q => Sig.mapped_setSlot _ _ _ _ rfl) rfl
    exact hlost.congr (by simp [State.readiness])
  timeout x _ h := readersReadySound.timeout x h
  gauge x _ _ h := h.congr (by simp [State.readiness])
  offerBoom _ x _ s h := readersReadySound.offerBoom (fun _ _ _ _ _ _ _ h => h.accept _ _ _ _) x
    (by exact h.congr rfl)
  phases _ _ _ _ h := h.congr rfl
  phaseError qa qb s h := by
    unfold State.phaseError
    have hdin : ∀ f, (s.modDin f).ReadySound := fun f => h.congr rfl
    dsimp only
    split
    · have hunhomed : (s.modDin fun d => { d with
            qa := qa, qb := qb, phaseErrors := satAdd max16 d.phaseErrors 1,
            homing := .unhomed }).boomUnhomed.ReadySound :=
        (hdin _).slots (fun q => by
          unfold State.boomUnhomed
          split
          · cases q <;> rfl
          · rfl) (by unfold State.boomUnhomed; split <;> rfl)
      exact hunhomed.congr (by simp [State.readiness])
    · exact hdin _
  index _ h := h.congr rfl
  line _ _ _ _ h := h.congr rfl
  dump t _ h := readersReadySound.dump t h
  park t s _ h := by
    rw [State.park_eq]
    refine State.ReadySound.applyDeferred (h.slots (fun q => ?_) ?_) t
    · simp [State.parkSlots_slot, Slot.mapped, Slot.parked]
    · simp [State.parkWork_wen, Wen.curveState]
  wake t s _ h := by
    refine h.slots (fun q => ?_) (by simp [Wen.curveState])
    have hslot : (s.wake t).sig.slot q = (s.wakeSlots t).sig.slot q := by simp [State.wake, State.wakeSlots]
    rw [hslot, State.wakeSlots_slot]
    split <;> rfl
  service _ h := h.congr (by simp [State.readiness])
  arbiterTake _ _ _ _ h := h.congr rfl
  machineTake _ _ _ _ h := h.congr rfl
  cabSent _ _ _ h := h.congr rfl
  machineSent _ _ h := h.congr rfl
  failed _ _ _ h := h.congr (by simp [State.readiness])
  discarded _ _ _ _ h := h.congr (by simp [State.readiness])
  silenceEnd _ _ h := h.congr (by simp [State.readiness])
  reported _ _ _ _ h := h.congr (by simp [State.readiness])
  mode _ _ _ m s _ h := h.mode m
  openLoad _ _ _ _ _ _ _ _ h := h.congr rfl
  loadData _ _ _ _ _ _ h := h.congr rfl
  failLoad _ _ _ h := h.congr rfl
  freeLoad _ h := h.congr rfl
  loadFat _ _ _ _ h := h.congr rfl
  loadSxt _ _ _ hm _ h := h.config hm rfl rfl
  loadRecord _ _ _ hm _ _ h := h.config hm rfl rfl
  loadCurve _ _ c xs s hm _ _ _ _ h := h.config (by simpa [State.setAssembly] using hm) (by simp [State.setAssembly])
    (by simp [State.setAssembly])
  loadBands _ _ _ hm h := h.config hm rfl rfl
  loadMaterials _ _ _ _ _ hc h := h.loadMaterials hc
  loadLines _ _ _ _ h := h.congr rfl
  tare _ _ h := h.congr rfl
  cancelLast t s h := by
    refine h.withLac ?_ (by simp)
    rw [State.cancelLast_lac]
    split
    · exact h.lac
    · exact h.lac.congr rfl (by simp [Lac.rebucketed, Load.withBuckets]) rfl
  nextTruck b t _ h := h.nextTruck b t
  shiftClose _ _ h := h.congr rfl
  target a b t s _ h := by
    refine h.withLac ?_ (by simp)
    rw [State.evalOverload_lac]
    exact h.lac.congr rfl (by simp [Lac.withTarget]) rfl
  material index k s hk h := h.withLac (h.lac.chooseMaterial hk) rfl
  holdChan _ _ h := h.congr rfl
  releaseChan _ _ h := h.congr rfl
  blockChan _ _ h := h.congr rfl
  unblockChan _ _ h := h.congr rfl
  toggle _ _ _ _ h := h.congr rfl
  capture _ _ _ h := h.congr rfl
  notices _ _ _ h := h.congr rfl
  clearAlerts _ _ h := h.congr rfl
  node _ _ _ h := h.congr rfl
  restart _ s h := h.config rfl (by simp [State.warmValues, State.endWork]) (by simp [State.warmValues, State.endWork])

/-- Settles O9: every event keeps the conditions of entering RUN and CALIBRATE true in them. -/
theorem readinessHoldsThroughRun : Obligations.ReadinessHoldsThroughRun := by
  unfold Obligations.ReadinessHoldsThroughRun
  exact fun _ _ h hs => keptReadySound.step h hs

end Sys2Proof.Machine
end

section
/-! ## A parked part stays quiet (O14) -/
namespace Sys2Proof.Machine

/-- The cab port of a parked part: the gauge timer IDLE, G and P drained but for a carried frame (R177, R179). -/
structure Cport.Quiet (p : Cport) : Prop where
  gauge : p.gauge = none
  drained : ∀ ch, ch = .g ∨ ch = .p → (p.chan ch).queue.length ≤ if p.carrying = some ch then 1 else 0

/-- What `ParkedQuiet` says of a parked part. -/
structure State.Quiet (s : State) : Prop where
  window : s.wen.window = none
  ports : s.cport.Quiet
  held : ∀ i : Fin 48, s.fcl.held[i] = none ∧ s.fcl.timers[i] = none
  run : ∀ c, s.wen.calibration = some c → c.run = .armed none

theorem State.parkedQuiet_iff (s : State) : s.ParkedQuiet ↔ (s.din.power = .parked → s.Quiet) :=
  ⟨fun ⟨h1, h2, h3, h4, h5⟩ hp => ⟨h1 hp, ⟨h2 hp, h4 hp⟩, h3 hp, h5 hp⟩,
    fun h => ⟨fun hp => (h hp).window, fun hp => (h hp).ports.gauge, fun hp => (h hp).held,
      fun hp => (h hp).ports.drained, fun hp => (h hp).run⟩⟩

namespace Cport.Quiet
variable {p q : Cport}

theorem congr (h : p.Quiet) (hg : q.gauge = p.gauge) (hq : q.g.queue = p.g.queue) (hp : q.p.queue = p.p.queue)
    (hc : q.carrying = p.carrying) : q.Quiet := by
  refine ⟨hg.trans h.gauge, ?_⟩
  rintro ch (rfl | rfl)
  · have := h.drained .g (.inl rfl)
    simpa only [Cport.chan, hq, hc] using this
  · have := h.drained .p (.inr rfl)
    simpa only [Cport.chan, hp, hc] using this

/-- One channel's queue made no longer, with the same frame carried. -/
theorem setChan (h : p.Quiet) (ch : Channel) {x : ChannelState}
    (hx : x.queue.length ≤ (p.chan ch).queue.length) : (p.setChan ch x).Quiet := by
  refine ⟨by simpa using h.gauge, fun d hd => ?_⟩
  have hd' := h.drained d hd
  by_cases hdc : d = ch
  · subst hdc
    simpa using hx.trans hd'
  · simpa [hdc] using hd'

theorem blockChan (h : p.Quiet) (ch : Channel) : (p.blockChan ch).Quiet := by
  cases hb : (p.chan ch).blocked
  · rw [Cport.blockChan_of_unmarked hb]
    refine h.setChan ch ?_
    dsimp only
    split <;> simp
  · rwa [Cport.blockChan_of_blocked hb]

/-- The transmitter takes a frame while it is FREE: G and P are then empty. -/
theorem takeFrom (h : p.Quiet) (hr : p.ready = true) (ch : Channel) : (p.takeFrom ch).Quiet := by
  have hfree : p.carrying = none := by
    simp only [Cport.ready, Bool.and_eq_true, Option.isNone_iff_eq_none] at hr
    exact hr.1
  refine ⟨by simpa [Cport.takeFrom] using h.gauge, fun d hd => ?_⟩
  have hd' := h.drained d hd
  rw [hfree] at hd'
  have hlen : ((p.takeFrom ch).chan d).queue.length = (p.chan d).queue.length := by
    rw [Cport.takeFrom_chan]
    by_cases hdc : d = ch
    · subst hdc
      cases hq : (p.chan d).queue <;> simp [mapHead]
    · simp [hdc]
  rw [hlen]
  simp only [reduceCtorEq, if_false] at hd'
  omega

/-- The carried frame leaves its queue. -/
theorem letGo (h : p.Quiet) {ch : Channel} (hc : p.carrying = some ch) (hch : ∀ d, q.chan d = (p.letGo ch).chan d)
    (hg : q.gauge = p.gauge) : q.Quiet := by
  refine ⟨hg.trans h.gauge, fun d hd => ?_⟩
  have hd' := h.drained d hd
  rw [hch, Cport.letGo_chan]
  by_cases hdc : d = ch
  · subst hdc
    simp only [hc, if_true] at hd'
    simp only [Cport.chan_setChan_self, ChannelState.pop, List.length_tail]
    omega
  · simp only [hc, Option.some.injEq, Ne.symm hdc, if_false] at hd'
    simp only [Cport.chan_setChan_ne hdc]
    omega

theorem sent (h : p.Quiet) {ch : Channel} (hc : p.carrying = some ch) : (p.sent ch).Quiet := by
  obtain ⟨hcar, -, -, -, hg, -⟩ := p.sent_toggles ch
  exact h.letGo hc (p.sent_chan ch) (by simpa [Cport.sent, Cport.letGo] using hg)

end Cport.Quiet

theorem Cport.park_frame (p : Cport) : p.park.gauge = none ∧ p.park.carrying = p.carrying ∧
    p.park.g.queue = (if p.carrying = some .g then p.g.queue.take 1 else []) ∧
    p.park.p.queue = (if p.carrying = some .p then p.p.queue.take 1 else []) :=
  ⟨rfl, rfl, rfl, rfl⟩

theorem Cport.park_quiet (p : Cport) : p.park.Quiet := by
  obtain ⟨hgauge, hcar, hg, hp⟩ := p.park_frame
  refine ⟨hgauge, ?_⟩
  rintro ch (rfl | rfl) <;> simp only [Cport.chan, hg, hp, hcar] <;> split <;> simp

/-! ### Offers and drops leave G and P as they are (R163, R166, R170) -/

/-- A capture touches C alone, and its NOTICE E. -/
theorem Cport.Quiet.offerC {s : State} (h : s.cport.Quiet) (f : Frame) : (s.offerC f).cport.Quiet := by
  have notice : ∀ (s : State) (gap : Bool) (t : Time), s.cport.Quiet → (s.noticeCaptureDone gap t).cport.Quiet := by
    intro s gap t h
    obtain ⟨fs, bits, hport, -, -⟩ := (State.Emits.refl s).offerE _
    rw [State.noticeCaptureDone, hport]
    exact h.congr rfl rfl rfl rfl
  unfold State.offerC
  split
  · exact h
  · split
    · dsimp only
      split
      · exact notice _ _ _ (h.congr rfl rfl rfl rfl)
      · exact h.congr rfl rfl rfl rfl
    · exact h.congr rfl rfl rfl rfl

theorem Cport.Quiet.respond {s : State} (h : s.cport.Quiet) (p : Port) (code tag : Byte) (st : Status)
    (results : List Byte) : (s.respond p code tag st results).cport.Quiet := by
  cases p
  · cases hb : s.cport.m.blocked
    · rw [State.respond_cab_open hb]
      exact h.congr rfl rfl rfl rfl
    · rwa [State.respond_cab_blocked hb]
  · rw [State.respond_machine]
    exact h

theorem Cport.Quiet.discarded {s : State} (h : s.cport.Quiet) {p : Port} (hc : s.carries p = true) (t : Time) :
    ((s.discardCarried p).setTx p ((s.tx p).dropped t)).cport.Quiet := by
  cases p
  · obtain ⟨ch, hch⟩ := Option.isSome_iff_exists.mp hc
    obtain ⟨-, -, -, -, hg, -⟩ := s.cport.settleToggle_frame ch
    simp only [State.discardCarried, hch, State.setTx, State.tx]
    refine h.letGo hch (fun d => ?_) (by simpa [Cport.letGo] using hg)
    rw [← Cport.settled_letGo_chan]
    cases d <;> rfl
  · exact h

theorem State.tracking_of_parked {s : State} (h : s.din.power = .parked) : s.tracking = false := by
  simp [State.tracking, h]

theorem State.restartGauge_of_parked {s : State} (h : s.din.power = .parked) (t : Time) :
    (s.restartGauge t).cport.gauge = none := by
  simp [State.restartGauge, h]

theorem Fcl.clearHolding_quiet (c : Fcl) (i : Fin 48) :
    c.clearHolding.held[i] = none ∧ c.clearHolding.timers[i] = none := by
  simp [Fcl.clearHolding]

namespace State.Quiet
variable {s t : State}

/-- What a quiet part is read from. -/
theorem congr (h : s.Quiet) (hw : t.wen.window = s.wen.window) (hc : t.wen.calibration = s.wen.calibration)
    (hf : t.fcl.held = s.fcl.held ∧ t.fcl.timers = s.fcl.timers) (hp : t.cport.Quiet) : t.Quiet :=
  ⟨hw.trans h.window, hp, by rw [hf.1, hf.2]; exact h.held, by rw [hc]; exact h.run⟩

/-- Only frames are offered to E, and alerts latched. -/
theorem emits (h : s.Quiet) (he : s.Emits t) (hf : t.fcl = s.fcl) (hw : t.wen.window = none)
    (hc : ∀ c, t.wen.calibration = some c → c.run = .armed none) : t.Quiet := by
  obtain ⟨fs, bits, hport, -, -⟩ := he
  exact ⟨hw, by rw [hport]; exact h.ports.congr rfl rfl rfl rfl, by rw [hf]; exact h.held, hc⟩

theorem changeMode (h : s.Quiet) (m : ModeTarget) (cause : NoticeCause) (x : Time) :
    (s.changeMode m cause x).Quiet := by
  refine h.emits ((Emits.refl s).changeMode m cause x) (by simp) (by simpa using h.window) ?_
  intro c hc
  rw [State.changeMode_wen] at hc
  cases m <;> simp only [ModeTarget.calibration, reduceCtorEq, Option.some.injEq] at hc
  rw [← hc]
  rfl

theorem applyDeferred (h : s.Quiet) (x : Time) : (s.applyDeferred x).Quiet := by
  have hset : (s.setDeferred none).Quiet := h.congr rfl rfl ⟨rfl, rfl⟩ h.ports
  rcases State.applyDeferred_cases x s with ⟨-, he⟩ | ⟨-, d, -, ⟨-, he⟩ | ⟨-, he⟩⟩ <;> rw [he]
  · exact h
  · exact hset.changeMode _ _ _
  · exact hset

theorem interruptRun (h : s.Quiet) (reason : BreakReason) (x : Time) : (s.interruptRun reason x).Quiet := by
  refine h.emits ((Emits.refl s).interruptRun reason x) (by simp) (by simpa using h.window) ?_
  intro c hc
  rw [State.interruptRun_wen] at hc
  obtain ⟨d, -, rfl⟩ := Option.map_eq_some_iff.1 hc
  exact d.interrupted_run

end State.Quiet

namespace State.ParkedQuiet
variable {s t : State}

theorem parked (h : s.ParkedQuiet) (hp : s.din.power = .parked) : s.Quiet := s.parkedQuiet_iff.1 h hp

/-- A step that keeps the power state need be looked at only while PARKED. -/
theorem step (h : s.ParkedQuiet) (hp : t.din.power = s.din.power) (hq : s.din.power = .parked → s.Quiet → t.Quiet) :
    t.ParkedQuiet :=
  t.parkedQuiet_iff.2 fun ht => hq (hp ▸ ht) (h.parked (hp ▸ ht))

/-- What a parked part does not do. -/
theorem idle (h : s.ParkedQuiet) (hp : t.din.power = s.din.power) (he : s.din.power = .parked → t = s) :
    t.ParkedQuiet :=
  h.step hp fun hparked hq => (he hparked).symm ▸ hq

theorem congr (h : s.ParkedQuiet) (hp : t.din.power = s.din.power) (hw : t.wen.window = s.wen.window)
    (hc : t.wen.calibration = s.wen.calibration) (hf : t.fcl.held = s.fcl.held ∧ t.fcl.timers = s.fcl.timers)
    (hport : s.cport.Quiet → t.cport.Quiet) : t.ParkedQuiet :=
  h.step hp fun _ hq => hq.congr hw hc hf (hport hq.ports)

/-- Blocks that play no part are changed. -/
theorem blocks (h : s.ParkedQuiet) (hp : t.din.power = s.din.power) (hw : t.wen.window = s.wen.window)
    (hc : t.wen.calibration = s.wen.calibration) (hf : t.fcl.held = s.fcl.held ∧ t.fcl.timers = s.fcl.timers)
    (hport : t.cport = s.cport) : t.ParkedQuiet :=
  h.congr hp hw hc hf fun hq => hport ▸ hq

/-- Only frames are offered to E, and alerts latched. -/
theorem emits (h : s.ParkedQuiet) (he : s.Emits t) (hp : t.din.power = s.din.power) (hf : t.fcl = s.fcl)
    (hw : t.wen.window = s.wen.window) (hc : t.wen.calibration = s.wen.calibration) : t.ParkedQuiet :=
  h.step hp fun _ hq => hq.emits he hf (hw.trans hq.window) (by rw [hc]; exact hq.run)

theorem running (hp : t.din.power = .running) : t.ParkedQuiet := t.parkedQuiet_iff.2 (by simp [hp])

theorem endWindow (h : s.ParkedQuiet) (e : Ending) (x : Time) : (s.endWindow e x).ParkedQuiet :=
  h.idle (by simp) fun hp => State.endWindow_of_none (h.parked hp).window e x

theorem park (s : State) (x : Time) : (s.park x).ParkedQuiet := by
  have hwork : (s.parkWork x).Quiet := by
    refine ⟨by simp [State.parkWork_wen], Cport.park_quiet _, by simpa using Fcl.clearHolding_quiet _, ?_⟩
    intro c hc
    rw [State.parkWork_wen] at hc
    obtain ⟨d, -, rfl⟩ := Option.map_eq_some_iff.1 hc
    exact d.interrupted_run
  rw [State.park_eq]
  exact (State.parkedQuiet_iff _).2 fun _ => hwork.applyDeferred x

end State.ParkedQuiet

theorem readersParkedQuiet : Readers State.ParkedQuiet State.ParkedQuiet where
  weaken _ h := h
  testPoint _ _ _ h := h.idle (by simp) fun hp => by simp [State.testPoint, State.tracking_of_parked hp]
  calPoint _ _ _ h := h.idle (by simp) fun hp => by simp [State.calPoint, hp]
  evaluate _ _ h := h.idle (by simp) fun hp => by simp [State.evaluate, State.tracking_of_parked hp]
  dumpEvent _ _ h := h.idle (by simp) fun hp => by simp [State.dumpEvent, State.tracking_of_parked hp]
  tip _ _ h := h.blocks rfl rfl rfl ⟨rfl, rfl⟩ rfl
  endWindow e t _ h := h.endWindow e t
  interruptRun r t _ h := h.step (by simp) fun _ hq => hq.interruptRun r t
  applyDeferred t _ h := h.step (by simp) fun _ hq => hq.applyDeferred t

open State (Emits) in
/-- Each event keeps a parked part quiet. -/
theorem keptParkedQuiet : Kept EveryRow State.ParkedQuiet where
  waiting _ _ _ h := h.blocks rfl rfl rfl ⟨rfl, rfl⟩ rfl
  coldReset _ pins s := by
    refine (State.parkedQuiet_iff _).2 fun _ => ⟨rfl, ⟨rfl, ?_⟩, fun i => ?_, fun _ hc => nomatch hc⟩
    · rintro ch (rfl | rfl) <;> exact Nat.zero_le _
    · simp [State.cold, Fcl.cold]
  tick _ _ h := h.blocks rfl rfl rfl ⟨rfl, rfl⟩ rfl
  offerE f s h := h.emits ((Emits.refl s).offerE f) (by simp) (by simp) (by simp) (by simp)
  latch a s h := h.blocks rfl rfl rfl ⟨rfl, rfl⟩ rfl
  offerP _ _ h := h.idle (by simp) fun hp => by simp [State.offerP, hp]
  offerC f s h := h.congr (by simp) (by simp) (by simp) (by simp) fun hq => hq.offerC f
  respond p _ _ _ _ _ _ h := h.congr (by simp) (by simp) (by simp) (by simp) fun hq => hq.respond p _ _ _ _
  free _ _ h := h.blocks rfl rfl rfl ⟨rfl, rfl⟩ rfl
  handOff _ bytes t i s h := h.idle (by simp) fun hp => by simp [State.handOff, State.extraction, hp]
  hold _ _ _ s hp _ := State.ParkedQuiet.running (by simpa using hp)
  drained i s h := h.step rfl fun _ hq => ⟨hq.window, hq.ports, fun j => by
    have := hq.held j
    by_cases hij : i = j <;> simp_all [Fcl.setHolding, Vector.getElem_set], hq.run⟩
  refill i _ x _ s hx _ h := h.step rfl fun _ hq => absurd (hq.held i).2 (by simp [hx])
  fresh _ _ _ _ _ h := h.blocks rfl rfl rfl ⟨rfl, rfl⟩ rfl
  loss r x s _ h := readersParkedQuiet.slotLost r x <|
    h.emits (Emits.raiseAlert (by exact (Emits.refl s).frame rfl rfl) _ _ _) (by simp) (by simp) (by simp) (by simp)
  timeout x _ h := readersParkedQuiet.timeout x h
  gauge x s hx h := h.step (by simp) fun _ hq => absurd hq.ports.gauge (by simp [hx])
  offerBoom _ x y s h := by
    refine h.step (by simp) fun hp hq => ?_
    have he : (s.modDin fun d => { d with offerTick := y }).offerBoom x =
        s.modDin fun d => { d with offerTick := y } := by
      unfold State.offerBoom
      split
      · rw [if_neg (by simp [hp])]
      · rfl
    rw [he]
    exact hq.congr rfl rfl ⟨rfl, rfl⟩ hq.ports
  phases _ _ _ _ h := h.blocks rfl rfl rfl ⟨rfl, rfl⟩ rfl
  phaseError qa qb s h := h.emits ((Emits.refl s).phaseError qa qb) (by simp) (by simp) (by simp) (by simp)
  index _ h := h.blocks rfl rfl rfl ⟨rfl, rfl⟩ rfl
  line _ _ _ _ h := h.blocks rfl rfl rfl ⟨rfl, rfl⟩ rfl
  dump t _ h := readersParkedQuiet.dump t h
  park t s _ _ := State.ParkedQuiet.park s t
  wake t s _ _ := State.ParkedQuiet.running (by simp [State.wake])
  service _ h := h.blocks (by simp) (by simp) (by simp) (by simp) (by simp)
  arbiterTake ch s hr _ h := h.congr rfl rfl rfl ⟨rfl, rfl⟩ fun hq => hq.takeFrom hr ch
  machineTake _ _ _ _ h := h.blocks rfl rfl rfl ⟨rfl, rfl⟩ rfl
  cabSent ch s hc h := h.congr rfl rfl rfl ⟨rfl, rfl⟩ fun hq => hq.sent hc
  machineSent _ _ h := h.blocks rfl rfl rfl ⟨rfl, rfl⟩ rfl
  failed p _ _ h := h.congr (by simp) (by simp) (by simp) (by simp) fun hq => by
    cases p <;> exact hq.congr rfl rfl rfl rfl
  discarded p t s hc h := h.congr (by simp) (by simp) (by simp) (by simp) fun hq => hq.discarded hc t
  silenceEnd p _ h := h.congr (by simp) (by simp) (by simp) (by simp) fun hq => by
    cases p <;> exact hq.congr rfl rfl rfl rfl
  reported _ _ _ _ h := h.blocks (by simp) (by simp) (by simp) (by simp) (by simp)
  mode _ _ _ m s _ h := by
    rcases State.requestMode_cases m s with he | ⟨d, he⟩ | he <;> rw [he]
    · exact h
    · exact h.blocks rfl rfl rfl ⟨rfl, rfl⟩ rfl
    · exact h.step (by simp) fun _ hq => hq.changeMode _ _ _
  openLoad _ _ _ _ _ _ _ _ h := h.blocks rfl rfl rfl ⟨rfl, rfl⟩ rfl
  loadData _ _ _ _ _ _ h := h.blocks rfl rfl rfl ⟨rfl, rfl⟩ rfl
  failLoad _ _ _ h := h.blocks rfl rfl rfl ⟨rfl, rfl⟩ rfl
  freeLoad _ h := h.blocks rfl rfl rfl ⟨rfl, rfl⟩ rfl
  loadFat _ _ _ s h := h.step rfl fun _ hq => ⟨hq.window, hq.ports, Fcl.clearHolding_quiet _, hq.run⟩
  loadSxt _ _ _ _ _ h := h.blocks rfl rfl rfl ⟨rfl, rfl⟩ rfl
  loadRecord _ r s _ _ _ h := h.step rfl fun hp hq => by
    refine hq.congr rfl rfl ⟨rfl, rfl⟩ ?_
    have hg : (s.loadRecord r).cport.gauge = none := State.restartGauge_of_parked (by exact hp) _
    exact hq.ports.congr (hg.trans hq.ports.gauge.symm) rfl rfl rfl
  loadCurve _ _ c xs s _ _ _ _ _ h := h.emits
      (Emits.writeCurve (t := s.setAssembly none) ((Emits.refl s).frame rfl rfl) c xs _)
    (by simp [State.setAssembly]) (by simp [State.setAssembly]) (by simp [State.setAssembly])
    (by simp [State.setAssembly])
  loadBands _ _ _ _ h := h.blocks rfl rfl rfl ⟨rfl, rfl⟩ rfl
  loadMaterials _ _ _ _ _ _ h := h.blocks rfl rfl rfl ⟨rfl, rfl⟩ rfl
  loadLines _ _ _ _ h := h.blocks rfl rfl rfl ⟨rfl, rfl⟩ rfl
  tare _ _ h := h.blocks rfl rfl rfl ⟨rfl, rfl⟩ rfl
  cancelLast t s h := h.emits ((Emits.refl s).cancelLast t) (by simp) (by simp) (by simp) (by simp)
  nextTruck b t s h := h.emits ((Emits.refl s).nextTruck b t) (by simp) (by simp) (by simp) (by simp)
  shiftClose _ _ h := h.blocks rfl rfl rfl ⟨rfl, rfl⟩ rfl
  target _ _ t s _ h := h.emits (Emits.evalOverload (by exact (Emits.refl s).frame rfl rfl) t) (by simp) (by simp)
    (by simp) (by simp)
  material _ _ _ _ h := h.blocks rfl rfl rfl ⟨rfl, rfl⟩ rfl
  holdChan ch _ h := h.congr rfl rfl rfl ⟨rfl, rfl⟩ fun hq => hq.setChan ch le_rfl
  releaseChan ch _ h := h.congr rfl rfl rfl ⟨rfl, rfl⟩ fun hq => hq.setChan ch le_rfl
  blockChan ch _ h := h.congr rfl rfl rfl ⟨rfl, rfl⟩ fun hq => hq.blockChan ch
  unblockChan ch _ h := h.congr rfl rfl rfl ⟨rfl, rfl⟩ fun hq => hq.setChan ch le_rfl
  toggle ch v _ _ h := h.congr rfl rfl rfl ⟨rfl, rfl⟩ fun hq => by
    unfold State.modCport Cport.forceToggle
    dsimp only
    split <;> cases ch <;> exact hq.congr rfl rfl rfl rfl
  capture _ _ _ h := h.congr rfl rfl rfl ⟨rfl, rfl⟩ fun hq => hq.congr rfl rfl rfl rfl
  notices _ _ _ h := h.blocks rfl rfl rfl ⟨rfl, rfl⟩ rfl
  clearAlerts _ _ h := h.blocks rfl rfl rfl ⟨rfl, rfl⟩ rfl
  node _ _ _ h := h.blocks rfl rfl rfl ⟨rfl, rfl⟩ rfl
  restart _ s _ := (State.parkedQuiet_iff _).2 fun hp => by
    refine ⟨rfl, ⟨?_, ?_⟩, Fcl.clearHolding_quiet _, fun _ hc => nomatch hc⟩
    · exact State.restartGauge_of_parked (by exact hp) _
    · rintro ch (rfl | rfl) <;> exact Nat.zero_le _

/-- Settles O14: every event keeps a parked part quiet. -/
theorem parkedStaysQuiet : Obligations.ParkedStaysQuiet := by
  unfold Obligations.ParkedStaysQuiet
  exact fun _ _ h hs => keptParkedQuiet.step h hs

end Sys2Proof.Machine
end

section
/-! ## The load assembly, the roles and the holding slots (O13) -/
namespace Sys2Proof.Machine

/-! ### Holding slots (R17, R18) -/

/-- The holding discipline is about the slots and the timers alone. -/
theorem State.HoldingSound.congr {s t : State} (h : s.HoldingSound) (hh : t.fcl.held = s.fcl.held)
    (ht : t.fcl.timers = s.fcl.timers) : t.HoldingSound := fun i => by
  rw [hh, ht]
  exact h i

/-- Every slot empty. -/
theorem State.HoldingSound.cleared {t : State} (c : Fcl) (h : t.fcl.held = c.clearHolding.held) : t.HoldingSound := by
  intro i hi
  rw [h] at hi
  simp [Fcl.clearHolding] at hi

/-- One slot set, empty or behind a running timer. -/
theorem State.HoldingSound.setHolding {s : State} (h : s.HoldingSound) (i : Fin 48) (slot : Option Frame)
    (timer : Option Time) (ht : slot.isSome = true → timer.isSome = true) :
    (s.modFcl fun c => c.setHolding i slot timer).HoldingSound := by
  intro j
  have hj := h j
  by_cases hij : i.val = j.val
  · have : i = j := Fin.ext hij
    subst this
    simpa [State.modFcl, Fcl.setHolding] using ht
  · simpa [State.modFcl, Fcl.setHolding, Vector.getElem_set, hij] using hj

/-! ### Roles (R26) -/

theorem State.RolesUnique.congr {s t : State} (h : s.RolesUnique) (hx : t.sig.sxt = s.sig.sxt) : t.RolesUnique := by
  unfold State.RolesUnique
  rw [hx]
  exact h

/-- A table without a conflict names no role twice (R26). -/
theorem sxtConflict_eq_none {v : Vector SxtEntry 16} (h : sxtConflict v = none) :
    ∀ i j : Fin 16, v[i].enabled = true → v[j].enabled = true → v[i].role = v[j].role → i = j := by
  intro i j hi hj hr
  by_contra hne
  unfold sxtConflict at h
  dsimp only at h
  split at h
  · rename_i k hk
    have hself : k ∈ (List.finRange 16).filter fun j =>
        v[k].enabled && v[j].enabled && decide (v[k].role = v[j].role) := by
      have hsome := List.find?_some hk
      obtain ⟨m, -, hm⟩ := List.any_eq_true.1 hsome
      simp only [Bool.and_eq_true, decide_eq_true_eq] at hm
      simpa using hm.2.1.1
    have := List.ne_nil_of_mem hself
    simp at h
    exact absurd h (by simpa using this)
  · rename_i hnone
    refine absurd (List.find?_eq_none.1 hnone i (List.mem_finRange i)) ?_
    rw [not_not]
    refine List.any_eq_true.2 ⟨j, List.mem_finRange j, ?_⟩
    rw [hi, hj, decide_eq_true hr, decide_eq_true (show i ≠ j from hne)]
    rfl

/-! ### The load assembly and the alert flags (R189, R202) -/

namespace Mgt.Sound
variable {s t : State}

theorem congr (h : s.mgt.Sound) (ha : t.mgt.assembly = s.mgt.assembly) (hl : t.mgt.alerts = s.mgt.alerts) :
    t.mgt.Sound := ⟨by rw [ha]; exact h.assembly, hl ▸ h.spare⟩

/-- No alert is a spare one. -/
theorem emits (h : s.mgt.Sound) (he : s.Emits t) (ha : t.mgt.assembly = s.mgt.assembly) : t.mgt.Sound := by
  obtain ⟨fs, bits, -, hl, hbits⟩ := he
  refine ⟨by rw [ha]; exact h.assembly, ?_⟩
  have hspare := h.spare
  rw [hl, BitVec.and_or_distrib_right, hspare, hbits]
  rfl

/-- The assembly replaced by a sound one. -/
theorem setAssembly (h : s.mgt.Sound) {a : Option Assembly} (ha : ∀ x, a = some x → x.Sound) :
    (s.setAssembly a).mgt.Sound := ⟨ha, h.spare⟩

/-- A load that OPEN_LOAD starts fits its table and the buffer (R190). -/
theorem openLoad (h : s.mgt.Sound) {p : Port} {code first count : Nat} {k : Table}
    (hk : s.openCheck p code first count = .ok k) (x : Time) :
    (s.setAssembly (some (Assembly.start p k first count x))).mgt.Sound := by
  have hfits : k.runFits first count = true := by
    unfold State.openCheck at hk
    (repeat' split at hk) <;> cases hk
    simpa using ‹¬ _ = false›
  simp only [Table.runFits, Config.assemblyBytes, Bool.and_eq_true, decide_eq_true_eq] at hfits
  obtain ⟨⟨hcount, hrun⟩, hbytes⟩ := hfits
  have hbytes := of_decide_eq_true hbytes
  refine h.setAssembly fun a ha => ?_
  obtain rfl := Option.some.inj ha
  exact ⟨⟨hcount, hrun⟩, ⟨rfl, hbytes⟩, Nat.zero_le _⟩

/-- LOAD_DATA stores no byte past the declared total (R191). -/
theorem loadData (h : s.mgt.Sound) {a : Assembly} (ha : s.mgt.assembly = some a) (seq : Byte) (payload : List Byte)
    (x : Time) : (s.setAssembly (some (a.afterData seq payload x))).mgt.Sound := by
  obtain ⟨hrun, hdecl, hrec⟩ := h.assembly a ha
  refine h.setAssembly fun b hb => ?_
  obtain rfl := Option.some.inj hb
  unfold Assembly.afterData
  split
  · exact ⟨hrun, hdecl, hrec⟩
  · refine ⟨hrun, hdecl, ?_⟩
    simp only [List.length_append, List.length_take]
    omega

end Mgt.Sound

theorem State.settleService_mgt (s : State) :
    s.settleService.mgt = s.mgt ∨ s.settleService.mgt = s.mgt.freeMachineLoad := by
  unfold State.settleService
  dsimp only
  split
  · exact .inr rfl
  · exact .inl rfl

/-- A copy queued for C raises at most EVENT_LOST. -/
theorem Mgt.Sound.offerC {s : State} (h : s.mgt.Sound) (f : Frame) : (s.offerC f).mgt.Sound := by
  unfold State.offerC
  split
  · exact h
  · split
    · dsimp only
      split
      · exact Mgt.Sound.emits (by exact h) ((State.Emits.refl _).offerE _) (by simp)
      · exact h
    · exact h

theorem Mgt.Sound.park {s : State} (h : s.mgt.Sound) (t : Time) : (s.park t).mgt.Sound := by
  have hwork : (s.parkWork t).mgt.Sound := by
    have hset : (((s.modDin fun d => { d with power := .parked }).modFcl Fcl.clearHolding).parkSlots).mgt.Sound := by
      simpa using h
    have hend := hset.emits (((State.Emits.refl _).endWindow .parked t).interruptRun .parked t) (by simp)
    exact hend
  exact hwork.emits ((State.Emits.refl _).applyDeferred t) (by simp)

theorem Mgt.Sound.wake {s : State} (h : s.mgt.Sound) (t : Time) : (s.wake t).mgt.Sound := by
  have hkey : (s.noticeKeyOn t).mgt.Sound := h.emits ((State.Emits.refl s).offerE _) (by simp)
  exact hkey.congr (by simp [State.wake]) (by simp [State.wake])

/-- Each event keeps the roles of enabled SXT entries distinct. -/
theorem keptRolesUnique : Kept EveryRow State.RolesUnique where
  waiting _ _ _ h := State.RolesUnique.congr h rfl
  coldReset _ _ _ := fun i j hi => by simp [State.cold, Sig.cold, SxtEntry.cold] at hi
  tick _ _ h := State.RolesUnique.congr h rfl
  offerE _ _ h := State.RolesUnique.congr h (by simp)
  latch _ _ h := State.RolesUnique.congr h rfl
  offerP _ _ h := State.RolesUnique.congr h (by simp)
  offerC _ _ h := State.RolesUnique.congr h (by simp)
  respond _ _ _ _ _ _ _ h := State.RolesUnique.congr h (by simp)
  free _ _ h := State.RolesUnique.congr h rfl
  handOff _ _ _ _ _ h := State.RolesUnique.congr h (by simp)
  hold _ _ _ _ _ h := State.RolesUnique.congr h rfl
  drained _ _ h := State.RolesUnique.congr h rfl
  refill _ _ _ _ _ _ _ h := State.RolesUnique.congr h rfl
  fresh _ _ _ _ _ h := State.RolesUnique.congr h (by simp [State.modSlot])
  loss _ _ _ _ h := State.RolesUnique.congr h (by simp [State.slotLost]; split <;> simp)
  timeout _ _ h := State.RolesUnique.congr h (by simp)
  gauge _ _ _ h := State.RolesUnique.congr h (by simp)
  offerBoom _ _ _ _ h := State.RolesUnique.congr h (by simp)
  phases _ _ _ _ h := State.RolesUnique.congr h rfl
  phaseError _ _ _ h := State.RolesUnique.congr h (by simp)
  index _ h := State.RolesUnique.congr h rfl
  line _ _ _ _ h := State.RolesUnique.congr h rfl
  dump _ _ h := State.RolesUnique.congr h (by simp)
  park _ _ _ h := State.RolesUnique.congr h (by simp)
  wake _ _ _ h := State.RolesUnique.congr h (by simp)
  service _ h := State.RolesUnique.congr h (by simp)
  arbiterTake _ _ _ _ h := State.RolesUnique.congr h rfl
  machineTake _ _ _ _ h := State.RolesUnique.congr h rfl
  cabSent _ _ _ h := State.RolesUnique.congr h rfl
  machineSent _ _ h := State.RolesUnique.congr h rfl
  failed _ _ _ h := State.RolesUnique.congr h (by simp)
  discarded _ _ _ _ h := State.RolesUnique.congr h (by simp)
  silenceEnd _ _ h := State.RolesUnique.congr h (by simp)
  reported _ _ _ _ h := State.RolesUnique.congr h (by simp)
  mode _ _ _ _ _ _ h := State.RolesUnique.congr h (by simp)
  openLoad _ _ _ _ _ _ _ _ h := State.RolesUnique.congr h rfl
  loadData _ _ _ _ _ _ h := State.RolesUnique.congr h rfl
  failLoad _ _ _ h := State.RolesUnique.congr h rfl
  freeLoad _ h := State.RolesUnique.congr h rfl
  loadFat _ _ _ _ h := State.RolesUnique.congr h rfl
  loadSxt _ v s _ hv _ := fun i j => sxtConflict_eq_none hv i j
  loadRecord _ _ _ _ _ _ h := State.RolesUnique.congr h (by simp [State.loadRecord])
  loadCurve _ _ _ _ _ _ _ _ _ _ h := State.RolesUnique.congr h (by simp [State.setAssembly])
  loadBands _ _ _ _ h := State.RolesUnique.congr h rfl
  loadMaterials _ _ _ _ _ _ h := State.RolesUnique.congr h rfl
  loadLines _ _ _ _ h := State.RolesUnique.congr h rfl
  tare _ _ h := State.RolesUnique.congr h rfl
  cancelLast _ _ h := State.RolesUnique.congr h (by simp)
  nextTruck _ _ _ h := State.RolesUnique.congr h (by simp)
  shiftClose _ _ h := State.RolesUnique.congr h rfl
  target _ _ _ _ _ h := State.RolesUnique.congr h (by simp)
  material _ _ _ _ h := State.RolesUnique.congr h rfl
  holdChan _ _ h := State.RolesUnique.congr h rfl
  releaseChan _ _ h := State.RolesUnique.congr h rfl
  blockChan _ _ h := State.RolesUnique.congr h rfl
  unblockChan _ _ h := State.RolesUnique.congr h rfl
  toggle _ _ _ _ h := State.RolesUnique.congr h rfl
  capture _ _ _ h := State.RolesUnique.congr h rfl
  notices _ _ _ h := State.RolesUnique.congr h rfl
  clearAlerts _ _ h := State.RolesUnique.congr h rfl
  node _ _ _ h := State.RolesUnique.congr h rfl
  restart _ _ h := State.RolesUnique.congr h (by simp [State.warmValues, State.endWork])

/-- Each event keeps the holding discipline. -/
theorem keptHoldingSound : Kept EveryRow State.HoldingSound where
  waiting _ _ _ h := State.HoldingSound.congr h rfl rfl
  coldReset _ _ _ := fun i hi => by simp [State.cold, Fcl.cold] at hi
  tick _ _ h := State.HoldingSound.congr h rfl rfl
  offerE _ _ h := State.HoldingSound.congr h (by simp) (by simp)
  latch _ _ h := State.HoldingSound.congr h rfl rfl
  offerP _ _ h := State.HoldingSound.congr h (by simp) (by simp)
  offerC _ _ h := State.HoldingSound.congr h (by simp) (by simp)
  respond _ _ _ _ _ _ _ h := State.HoldingSound.congr h (by simp) (by simp)
  free _ _ h := State.HoldingSound.congr h rfl rfl
  handOff _ _ _ _ _ h := State.HoldingSound.congr h (by simp) (by simp)
  hold i slot x s _ h := State.HoldingSound.setHolding h i slot (some x) (fun _ => rfl)
  drained i s h := State.HoldingSound.setHolding h i none none (fun hn => nomatch hn)
  refill i f x y s _ _ h := State.HoldingSound.setHolding h i none (some y) (fun _ => rfl)
  fresh _ _ _ _ _ h := State.HoldingSound.congr h rfl rfl
  loss _ _ _ _ h := State.HoldingSound.congr h (by simp [State.slotLost]; split <;> simp)
      (by simp [State.slotLost]; split <;> simp)
  timeout _ _ h := State.HoldingSound.congr h (by simp) (by simp)
  gauge _ _ _ h := State.HoldingSound.congr h (by simp) (by simp)
  offerBoom _ _ _ _ h := State.HoldingSound.congr h (by simp) (by simp)
  phases _ _ _ _ h := State.HoldingSound.congr h rfl rfl
  phaseError _ _ _ h := State.HoldingSound.congr h (by simp) (by simp)
  index _ h := State.HoldingSound.congr h rfl rfl
  line _ _ _ _ h := State.HoldingSound.congr h rfl rfl
  dump _ _ h := State.HoldingSound.congr h (by simp) (by simp)
  park t s _ _ := State.HoldingSound.cleared s.fcl (by rw [State.park_eq]; simp)
  wake _ _ _ h := State.HoldingSound.congr h (by simp) (by simp)
  service _ h := State.HoldingSound.congr h (by simp) (by simp)
  arbiterTake _ _ _ _ h := State.HoldingSound.congr h rfl rfl
  machineTake _ _ _ _ h := State.HoldingSound.congr h rfl rfl
  cabSent _ _ _ h := State.HoldingSound.congr h rfl rfl
  machineSent _ _ h := State.HoldingSound.congr h rfl rfl
  failed _ _ _ h := State.HoldingSound.congr h (by simp) (by simp)
  discarded _ _ _ _ h := State.HoldingSound.congr h (by simp) (by simp)
  silenceEnd _ _ h := State.HoldingSound.congr h (by simp) (by simp)
  reported _ _ _ _ h := State.HoldingSound.congr h (by simp) (by simp)
  mode _ _ _ _ _ _ h := State.HoldingSound.congr h (by simp) (by simp)
  openLoad _ _ _ _ _ _ _ _ h := State.HoldingSound.congr h rfl rfl
  loadData _ _ _ _ _ _ h := State.HoldingSound.congr h rfl rfl
  failLoad _ _ _ h := State.HoldingSound.congr h rfl rfl
  freeLoad _ h := State.HoldingSound.congr h rfl rfl
  loadFat _ _ _ s _ := State.HoldingSound.cleared s.fcl rfl
  loadSxt _ _ _ _ _ h := State.HoldingSound.congr h (by simp [State.loadSxt]) (by simp [State.loadSxt])
  loadRecord _ _ _ _ _ _ h := State.HoldingSound.congr h (by simp [State.loadRecord]) (by simp [State.loadRecord])
  loadCurve _ _ _ _ _ _ _ _ _ _ h := State.HoldingSound.congr h (by simp [State.setAssembly])
      (by simp [State.setAssembly])
  loadBands _ _ _ _ h := State.HoldingSound.congr h rfl rfl
  loadMaterials _ _ _ _ _ _ h := State.HoldingSound.congr h rfl rfl
  loadLines _ _ _ _ h := State.HoldingSound.congr h rfl rfl
  tare _ _ h := State.HoldingSound.congr h rfl rfl
  cancelLast _ _ h := State.HoldingSound.congr h (by simp) (by simp)
  nextTruck _ _ _ h := State.HoldingSound.congr h (by simp) (by simp)
  shiftClose _ _ h := State.HoldingSound.congr h rfl rfl
  target _ _ _ _ _ h := State.HoldingSound.congr h (by simp) (by simp)
  material _ _ _ _ h := State.HoldingSound.congr h rfl rfl
  holdChan _ _ h := State.HoldingSound.congr h rfl rfl
  releaseChan _ _ h := State.HoldingSound.congr h rfl rfl
  blockChan _ _ h := State.HoldingSound.congr h rfl rfl
  unblockChan _ _ h := State.HoldingSound.congr h rfl rfl
  toggle _ _ _ _ h := State.HoldingSound.congr h rfl rfl
  capture _ _ _ h := State.HoldingSound.congr h rfl rfl
  notices _ _ _ h := State.HoldingSound.congr h rfl rfl
  clearAlerts _ _ h := State.HoldingSound.congr h rfl rfl
  node _ _ _ h := State.HoldingSound.congr h rfl rfl
  restart _ s _ := State.HoldingSound.cleared s.fcl rfl

open State (Emits) in
/-- Each event keeps the load assembly sound and the spare alert flags clear. -/
theorem keptMgtSound : Kept EveryRow (fun s => s.mgt.Sound) where
  waiting _ _ _ h := Mgt.Sound.congr h rfl rfl
  coldReset _ _ _ := Mgt.Sound.mk (fun _ ha => nomatch ha) (by simp [State.cold, Mgt.cold])
  tick _ _ h := Mgt.Sound.congr h rfl rfl
  offerE f s h := Mgt.Sound.emits h ((Emits.refl s).offerE f) (by simp)
  latch a s h := Mgt.Sound.emits h ((Emits.refl s).latch a) rfl
  offerP _ _ h := Mgt.Sound.congr h (by simp) (by simp)
  offerC f s h := Mgt.Sound.offerC h f
  respond _ _ _ _ _ _ _ h := Mgt.Sound.congr h (by simp) (by simp)
  free _ _ h := Mgt.Sound.congr h rfl rfl
  handOff _ b t i s h := Mgt.Sound.emits h ((Emits.refl s).handOff b t i) (by simp)
  hold _ _ _ _ _ h := Mgt.Sound.congr h rfl rfl
  drained _ _ h := Mgt.Sound.congr h rfl rfl
  refill _ _ _ _ _ _ _ h := Mgt.Sound.congr h rfl rfl
  fresh _ _ _ _ _ h := Mgt.Sound.congr h rfl rfl
  loss r x s _ h := Mgt.Sound.emits h ((Emits.refl s).slotLost r x) (by simp [State.slotLost]; split <;> simp)
  timeout x s h := Mgt.Sound.emits h (((Emits.refl s).endWindow _ x).applyDeferred x) (by simp)
  gauge _ _ _ h := Mgt.Sound.congr h (by simp) (by simp)
  offerBoom _ x y s h := Mgt.Sound.emits h (Emits.offerBoom (by exact (Emits.refl s).frame rfl rfl) x) (by simp)
  phases _ _ _ _ h := Mgt.Sound.congr h rfl rfl
  phaseError qa qb s h := Mgt.Sound.emits h ((Emits.refl s).phaseError qa qb) (by simp)
  index _ h := Mgt.Sound.congr h rfl rfl
  line _ _ _ _ h := Mgt.Sound.congr h rfl rfl
  dump t s h := Mgt.Sound.emits h (((Emits.refl s).dumpEvent t).applyDeferred t) (by simp)
  park t s _ h := h.park t
  wake t s _ h := h.wake t
  service s h := by
    rcases s.settleService_mgt with he | he <;> rw [he]
    · exact h
    · refine ⟨fun a ha => ?_, h.spare⟩
      unfold Mgt.freeMachineLoad at ha
      (repeat' split at ha) <;> cases ha
      exact h.assembly _ ‹_›
  arbiterTake _ _ _ _ h := Mgt.Sound.congr h rfl rfl
  machineTake _ _ _ _ h := Mgt.Sound.congr h rfl rfl
  cabSent _ _ _ h := Mgt.Sound.congr h rfl rfl
  machineSent _ _ h := Mgt.Sound.congr h rfl rfl
  failed _ _ _ h := Mgt.Sound.congr h (by simp) (by simp)
  discarded _ _ _ _ h := Mgt.Sound.congr h (by simp) (by simp)
  silenceEnd _ _ h := Mgt.Sound.congr h (by simp) (by simp)
  reported _ _ _ _ h := Mgt.Sound.congr h (by simp) (by simp)
  mode _ _ _ m s _ h := Mgt.Sound.emits h ((Emits.refl s).requestMode m) (by simp)
  openLoad _ _ _ _ _ t _ hk h := h.openLoad hk t
  loadData a seq payload t _ ha h := h.loadData ha seq payload t
  failLoad a _ ha h := h.setAssembly fun b hb => by
    cases hb
    exact ⟨(h.assembly a ha).1, (h.assembly a ha).2, (h.assembly a ha).3⟩
  freeLoad _ h := h.setAssembly fun _ hb => nomatch hb
  loadFat _ _ _ _ h := Mgt.Sound.congr h rfl rfl
  loadSxt _ _ s _ _ h := Mgt.Sound.congr h rfl rfl
  loadRecord _ _ s _ _ _ h := Mgt.Sound.congr h rfl rfl
  loadCurve _ _ c xs s _ _ _ _ _ h := by
    have hfree : (s.setAssembly none).mgt.Sound := h.setAssembly fun _ hb => nomatch hb
    exact hfree.emits ((Emits.refl _).writeCurve c xs _) (by simp)
  loadBands _ _ _ _ h := Mgt.Sound.congr h rfl rfl
  loadMaterials _ _ _ _ _ _ h := Mgt.Sound.congr h rfl rfl
  loadLines _ _ _ _ h := Mgt.Sound.congr h rfl rfl
  tare _ _ h := Mgt.Sound.congr h rfl rfl
  cancelLast t s h := Mgt.Sound.emits h ((Emits.refl s).cancelLast t) (by simp)
  nextTruck b t s h := Mgt.Sound.emits h ((Emits.refl s).nextTruck b t) (by simp)
  shiftClose _ _ h := Mgt.Sound.congr h rfl rfl
  target _ _ t s _ h := Mgt.Sound.emits h (Emits.evalOverload (by exact (Emits.refl s).frame rfl rfl) t) (by simp)
  material _ _ _ _ h := Mgt.Sound.congr h rfl rfl
  holdChan _ _ h := Mgt.Sound.congr h rfl rfl
  releaseChan _ _ h := Mgt.Sound.congr h rfl rfl
  blockChan _ _ h := Mgt.Sound.congr h rfl rfl
  unblockChan _ _ h := Mgt.Sound.congr h rfl rfl
  toggle _ _ _ _ h := Mgt.Sound.congr h rfl rfl
  capture _ _ _ h := Mgt.Sound.congr h rfl rfl
  notices _ _ _ h := Mgt.Sound.congr h rfl rfl
  clearAlerts mask s h := ⟨h.assembly, by
    have hspare := h.spare
    simp only [State.modMgt]
    rw [BitVec.and_assoc, BitVec.and_comm (~~~mask), ← BitVec.and_assoc, hspare]
    simp⟩
  node _ _ _ h := Mgt.Sound.congr h rfl rfl
  restart _ s h := by
    have hdeferred : (s.setDeferred none).mgt.Sound := h.congr rfl rfl
    have hend : s.endWork.mgt.Sound := hdeferred.emits (((Emits.refl _).endWindow .mode s.time).frame rfl rfl)
      (by simp [State.endWork])
    exact Mgt.Sound.mk (fun _ ha => nomatch ha) hend.spare

/-- Settles O13: every event keeps the assembly and the spare flags, the roles, and the holding discipline. -/
theorem assemblyRolesAndHoldingStaySound : Obligations.AssemblyRolesAndHoldingStaySound := by
  unfold Obligations.AssemblyRolesAndHoldingStaySound
  exact fun _ _ hs => ⟨fun h => keptMgtSound.step h hs, fun h => keptRolesUnique.step h hs,
    fun h => keptHoldingSound.step h hs⟩

end Sys2Proof.Machine
end

section
/-! ## The weighing engine stays within its ranges (O11) -/
namespace Sys2Proof.Machine

/-! ### Windows (R60, R63, R67) -/

theorem satAdd_le (m a b : Nat) : satAdd m a b ≤ m := Nat.min_le_left _ _

namespace Window.Sound
variable {w : Window}

theorem opened (r : MachineRecord) (theta : Int) (t : Time) : (Window.opened r theta t).Sound :=
  ⟨Nat.zero_le _, rfl, ⟨Nat.zero_le _, Nat.zero_le _, Nat.zero_le _, Nat.zero_le _, Nat.zero_le _, Nat.zero_le _⟩⟩

/-- A sample bumps a count, or is stored while fewer than 128 are (R67). -/
theorem afterSample (h : w.Sound) (o : SampleOutcome) (t : Time) : (w.afterSample o t).Sound := by
  obtain ⟨hs, hsum, h1, h2, h3, h4, h5, h6⟩ := h
  cases o with
  | staleInput => exact ⟨hs, hsum, satAdd_le _ _ _, h2, h3, h4, h5, h6⟩
  | outside => exact ⟨hs, hsum, h1, satAdd_le _ _ _, h3, h4, h5, h6⟩
  | stall => exact ⟨hs, hsum, h1, h2, satAdd_le _ _ _, h4, h5, h6⟩
  | overspeed om => exact ⟨hs, hsum, h1, h2, h3, satAdd_le _ _ _, h5, h6⟩
  | outOfRange => exact ⟨hs, hsum, h1, h2, h3, h4, satAdd_le _ _ _, h6⟩
  | accepted m =>
    by_cases hroom : w.samples.length < 128
    · rw [show w.afterSample (.accepted m) t = { w with samples := w.samples ++ [(m, t)], sum := w.sum + m } from
        if_pos hroom]
      exact ⟨by simpa using hroom, by simp [Window.masses, hsum], h1, h2, h3, h4, h5, h6⟩
    · rw [show w.afterSample (.accepted m) t =
        { w with counts := { w.counts with excess := bump w.counts.excess } } from
        if_neg hroom]
      exact ⟨hs, hsum, h1, h2, h3, h4, h5, satAdd_le _ _ _⟩

end Window.Sound

/-! ### Point sums (R92, R93, R98) -/

@[simp] theorem addFrom_length (xs : List Int) (k : Nat) (vs : List Int) : (addFrom xs k vs).length = xs.length := by
  induction xs generalizing k vs with
  | nil => simp [addFrom]
  | cons x xs ih => cases vs <;> cases k <;> simp [addFrom, ih]

/-- The sum at a point after values are added from index `k` on. -/
theorem addFrom_getD (xs : List Int) (k : Nat) (vs : List Int) (hlen : k + vs.length ≤ xs.length) (i : Nat) :
    (addFrom xs k vs).getD i 0 = xs.getD i 0 + if k ≤ i then vs.getD (i - k) 0 else 0 := by
  induction xs generalizing k vs i with
  | nil =>
    obtain rfl : vs = [] := List.length_eq_zero_iff.1 (Nat.le_zero.1 (le_trans (Nat.le_add_left _ k) hlen))
    simp [addFrom]
  | cons x xs ih =>
    cases vs with
    | nil => simp [addFrom]
    | cons v vs =>
      cases k with
      | zero =>
        cases i with
        | zero => simp [addFrom]
        | succ i =>
          have := ih 0 vs (by simpa using hlen) i
          simpa [addFrom] using this
      | succ k =>
        cases i with
        | zero => simp [addFrom]
        | succ i =>
          have := ih k (v :: vs) (by simp at hlen ⊢; omega) i
          simpa [addFrom] using this

theorem getD_append (xs ys : List Int) (i : Nat) :
    (xs ++ ys).getD i 0 = xs.getD i 0 + if xs.length ≤ i then ys.getD (i - xs.length) 0 else 0 := by
  by_cases hi : xs.length ≤ i
  · rw [List.getD_append_right _ _ _ _ hi, List.getD_eq_default _ _ hi, if_pos hi, zero_add]
  · rw [List.getD_append _ _ _ _ (by omega), if_neg hi, add_zero]

theorem getD_map_neg (xs : List Int) (i : Nat) : (xs.map fun v => -v).getD i 0 = -xs.getD i 0 := by
  simp only [List.getD_eq_getElem?_getD, List.getElem?_map]
  cases xs[i]? <;> simp

theorem inCurveRange_zero : inCurveRange 0 := by constructor <;> decide

theorem inCurveRange_getD {vs : List Int} (h : ∀ v ∈ vs, inCurveRange v) (i : Nat) : inCurveRange (vs.getD i 0) := by
  rw [List.getD_eq_getElem?_getD]
  cases hi : vs[i]? with
  | none => exact inCurveRange_zero
  | some v => exact h v (List.mem_of_getElem? hi)

/-- A rounded quotient is no greater than the bound of its dividend over its divisor. -/
theorem abs_rdiv_le {n d : Int} {b : Nat} (hd : d ≠ 0) (h : |n| ≤ b * |d|) : |rdiv n d| ≤ b := by
  have hq : (2 * n.natAbs + d.natAbs) / (2 * d.natAbs) ≤ b := by
    have hn : n.natAbs ≤ b * d.natAbs := by
      have : (n.natAbs : Int) ≤ (b * d.natAbs : Nat) := by push_cast; simpa using h
      exact_mod_cast this
    have hpos : 0 < d.natAbs := Int.natAbs_pos.2 hd
    rw [← Nat.lt_succ_iff, Nat.div_lt_iff_lt_mul (by omega)]
    nlinarith
  have hsign : rdiv n d = ((2 * n.natAbs + d.natAbs) / (2 * d.natAbs) : Nat) ∨
      rdiv n d = -((2 * n.natAbs + d.natAbs) / (2 * d.natAbs) : Nat) := by
    unfold rdiv
    dsimp only
    split
    · exact .inl rfl
    · exact .inr rfl
  generalize (2 * n.natAbs + d.natAbs) / (2 * d.natAbs) = q at hq hsign
  rw [abs_le]
  omega

theorem inCurveRange_iff (v : Int) : inCurveRange v ↔ |v| ≤ 524280 := by rw [abs_le]; rfl

/-! ### Calibrations (R86, R92 to R95) -/

namespace Calibration.Sound
variable {c : Calibration} {n : Nat}

/-- The run replaced by one with the same values. -/
theorem withRun (h : c.Sound n) (run : RunState) (hv : run.values = c.run.values) :
    ({ c with run := run } : Calibration).Sound n :=
  ⟨h.runs, h.done, h.sums, by rw [hv]; exact h.count, by rw [hv]; exact h.values, by rw [hv]; exact h.bounded, h.broken⟩

/-- The values of a broken run leave the sums (R95). -/
theorem broke (h : c.Sound n) : (c.broke c.run.values).Sound n where
  runs := h.runs
  done := h.done
  sums := by simp [Calibration.broke, h.sums]
  count := lt_of_le_of_lt (Nat.zero_le _) h.count
  values := by simp [Calibration.broke, RunState.values]
  bounded i := by
    have hlen : 0 + (c.run.values.map fun v => -v).length ≤ c.sums.length := by
      have := h.count
      simp only [List.length_map, h.sums]
      omega
    have hsum := h.bounded i
    show |(addFrom c.sums 0 (c.run.values.map fun v => -v)).getD i 0 - ([] : List Int).getD i 0| ≤ _
    rw [addFrom_getD _ _ _ hlen, getD_map_neg, if_pos (Nat.zero_le i), Nat.sub_zero]
    rw [List.getD_nil, sub_zero, ← sub_eq_add_neg]
    exact hsum
  broken := satAdd_le _ _ _

theorem interrupted (h : c.Sound n) : c.interrupted.Sound n := by
  unfold Calibration.interrupted
  split
  · rename_i hr
    have := h.broke
    rwa [hr] at this
  · rename_i hr
    exact h.withRun _ (by rw [hr]; rfl)

theorem afterBreak (h : c.Sound n) : c.afterBreak.Sound n := by
  unfold Calibration.afterBreak
  split
  · rename_i hr
    have := h.broke
    rwa [hr] at this
  · exact h

/-- A calibration set up on a grid (R85, R86). -/
theorem start (target : CurveName) {runs n : Nat} (hr : 1 ≤ runs ∧ runs ≤ 4) (hn : 0 < n) :
    (Calibration.start target runs n).Sound n where
  runs := hr
  done := hr.1
  sums := by simp [Calibration.start]
  count := hn
  values := by simp [Calibration.start, RunState.values]
  bounded i := by simp [Calibration.start, RunState.values]
  broken := Nat.zero_le _

/-- Values captured at the next points enter the sums and the run (R92, R93). What holds of the sums then is what
`Sound` asks, but for the count of a run that has reached the last point. -/
theorem captured (h : c.Sound n) {vs : List Int} (hlen : c.run.values.length + vs.length ≤ n)
    (hvs : ∀ v ∈ vs, inCurveRange v) (i : Nat) :
    |(addFrom c.sums c.run.values.length vs).getD i 0 - (c.run.values ++ vs).getD i 0| ≤ 524280 * c.done := by
  rw [addFrom_getD _ _ _ (by rw [h.sums]; exact hlen), getD_append]
  simpa using h.bounded i

theorem captures (h : c.Sound n) {vs : List Int} (hlen : c.run.values.length + vs.length < n)
    (hvs : ∀ v ∈ vs, inCurveRange v) {run : RunState} (hrun : run.values = c.run.values ++ vs) :
    ({ c with sums := addFrom c.sums c.run.values.length vs, run := run } : Calibration).Sound n where
  runs := h.runs
  done := h.done
  sums := by simp [h.sums]
  count := by rw [hrun, List.length_append]; exact hlen
  values v hv := by
    rw [hrun] at hv
    exact (List.mem_append.1 hv).elim (h.values v) (hvs v)
  bounded i := by rw [hrun]; exact h.captured hlen.le hvs i
  broken := h.broken

/-- The sums of a run that has reached the last point are those of one more run done (R94). -/
theorem lastPoint (h : c.Sound n) {vs : List Int} (hlen : c.run.values.length + vs.length ≤ n)
    (hvs : ∀ v ∈ vs, inCurveRange v) (i : Nat) :
    |(addFrom c.sums c.run.values.length vs).getD i 0| ≤ 524280 * (c.done + 1) := by
  have hall : ∀ v ∈ c.run.values ++ vs, inCurveRange v := fun v hv => (List.mem_append.1 hv).elim (h.values v) (hvs v)
  have hsum := h.captured hlen hvs i
  have hval := (inCurveRange_iff _).1 (inCurveRange_getD hall i)
  rw [abs_le] at hsum hval ⊢
  constructor <;> linarith [hsum.1, hsum.2, hval.1, hval.2]

end Calibration.Sound

/-- A captured value is limited to the curve range (R92). -/
theorem MachineRecord.captures_inRange (r : MachineRecord) (k : Nat) (th0 f0 th1 f1 : Int) :
    ∀ v ∈ r.captures k th0 f0 th1 f1, inCurveRange v := by
  intro v hv
  obtain ⟨i, -, rfl⟩ := List.mem_map.1 hv
  unfold MachineRecord.captureValue clamp inCurveRange
  split
  · decide
  · split
    · decide
    · omega

/-- A sample captures grid points from the next one on, and none past the last (R92). -/
theorem MachineRecord.captures_length_le (r : MachineRecord) (k : Nat) (th0 f0 th1 f1 : Int) :
    (r.captures k th0 f0 th1 f1).length ≤ r.n - k := by
  unfold MachineRecord.captures MachineRecord.captured
  rw [List.length_map]
  exact le_trans (List.takeWhile_sublist _).length_le (by simp)

/-! ### WEN (R48, R60, R82, R86) -/

/-- The grid of a record that passed its checks has at least 4 points (R41). -/
theorem MachineRecord.ok_n {r : MachineRecord} (h : r.ok = true) : 0 < r.n := by
  simp only [MachineRecord.ok, within, Bool.and_eq_true, decide_eq_true_eq] at h
  omega

namespace Wen.Sound
variable {w x : Wen}

theorem congr (h : w.Sound) (hr : x.record = w.record) (ht : x.tare = w.tare) (he : x.curveE = w.curveE)
    (hl : x.curveL = w.curveL) (hw : x.window = w.window) (hc : x.calibration = w.calibration) : x.Sound where
  record := hr ▸ h.record
  tare := ht ▸ h.tare
  curveE := by rw [he, hr]; exact h.curveE
  curveL := by rw [hl, hr]; exact h.curveL
  window := by rw [hw, hr]; exact h.window
  calibration := by rw [hc, hr]; exact h.calibration

/-- The window replaced by none, or by a sound one on a PRESENT record. -/
theorem withWindow (h : w.Sound) (v : Option Window) (hv : ∀ y, v = some y → y.Sound ∧ w.record.isSome = true) :
    ({ w with window := v } : Wen).Sound :=
  ⟨h.record, h.tare, h.curveE, h.curveL, hv, h.calibration⟩

/-- The calibration replaced by none, or by one that is sound on the grid of the record. -/
theorem withCalibration (h : w.Sound) (c : Option Calibration)
    (hc : ∀ y, c = some y → ∃ r, w.record = some r ∧ y.Sound r.n) : ({ w with calibration := c } : Wen).Sound :=
  ⟨h.record, h.tare, h.curveE, h.curveL, h.window, hc⟩

/-- A curve of a value per grid point, each in range. -/
theorem setCurve (h : w.Sound) (c : CurveName) {v : List Int} (hlen : ∃ r, w.record = some r ∧ v.length = r.n)
    (hv : ∀ y ∈ v, inCurveRange y) : (w.setCurve c v).Sound := by
  cases c
  · exact ⟨h.record, h.tare, fun e he => by cases he; exact ⟨hlen, hv⟩, h.curveL, h.window, h.calibration⟩
  · exact ⟨h.record, h.tare, h.curveE, fun e he => by cases he; exact ⟨hlen, hv⟩, h.window, h.calibration⟩

end Wen.Sound

/-- A tare pass gives a tare within its limits (R82). -/
theorem WindowResult.newTare_range {r : WindowResult} {m : Int} (h : r.newTare = some m) : -2000 ≤ m ∧ m ≤ 2000 := by
  unfold WindowResult.newTare at h
  split at h
  · split at h
    · cases h
      assumption
    · cases h
  · cases h

namespace State.WeighingSound
variable {s t : State}

theorem of (h : s.WeighingSound) (hw : t.wen.Sound) (hr : t.wen.record = s.wen.record)
    (ha : t.mgt.assembly = s.mgt.assembly) : t.WeighingSound :=
  ⟨hw, by rw [ha, hr]; exact h.curveLoad⟩

theorem congr (h : s.WeighingSound) (hw : t.wen = s.wen) (ha : t.mgt.assembly = s.mgt.assembly) : t.WeighingSound :=
  h.of (hw ▸ h.wen) (by rw [hw]) ha

/-- No load in progress, or one of an unchanged record that need be looked at only for a curve (R52). -/
theorem withAssembly (h : s.WeighingSound) (a : Option Assembly)
    (ha : ∀ x, a = some x → x.table = .curveE ∨ x.table = .curveL → ∃ r, s.wen.record = some r ∧ x.count = r.n) :
    (s.setAssembly a).WeighingSound := ⟨h.wen, ha⟩

theorem endWindow (h : s.WeighingSound) (e : Ending) (x : Time) : (s.endWindow e x).WeighingSound := by
  cases hw : s.wen.window with
  | none => rwa [State.endWindow_of_none hw]
  | some w =>
    refine h.of ?_ (by simp) (by simp)
    rw [State.endWindow_wen hw]
    have hwen := h.wen
    refine Wen.Sound.mk hwen.record ?_ hwen.curveE hwen.curveL (fun _ hv => nomatch hv) hwen.calibration
    dsimp only
    split
    · cases hn : (s.wen.result w e x).newTare with
      | none => exact hwen.tare
      | some m => exact WindowResult.newTare_range hn
    · exact hwen.tare

theorem noteLatest (h : s.WeighingSound) (x : Time) : (s.noteLatest x).WeighingSound :=
  h.of (h.wen.congr (by simp) (by simp) (by simp) (by simp) (by simp) (by simp)) (by simp) (by simp)

theorem testPoint (h : s.WeighingSound) (isHead : Bool) (x : Time) : (s.testPoint isHead x).WeighingSound := by
  refine State.testPoint_induct isHead x h ?_ ?_ ?_ ?_ ?_
  · intro _ r hr theta
    unfold State.openTest
    split
    · split
      · exact h.of (h.wen.withWindow _ fun y hy => by cases hy; exact ⟨Window.Sound.opened _ _ _, by simp [hr]⟩) rfl rfl
      · exact h
    · exact h
  · intro r s h _
    unfold State.weighSample
    split
    · exact h
    · rename_i w hw
      have hnote := h.noteLatest x
      have hs := h.wen.window w hw
      have hwindow : ((s.noteLatest x).modWen fun y => { y with
          window := some (w.afterSample (s.sampleOutcome r) x) }).WeighingSound :=
        hnote.of (hnote.wen.withWindow _ fun y hy => by cases hy; exact ⟨hs.1.afterSample _ _, by simpa using hs.2⟩)
            rfl rfl
      exact hwindow.congr (by simp) (by simp)
  · intro w y s h hw
    have hs := h.wen.window w hw
    exact h.of (h.wen.withWindow _ fun z hz => by cases hz; exact ⟨⟨hs.1.samples, hs.1.sum, hs.1.counts⟩, hs.2⟩) rfl rfl
  · exact fun e s h => h.endWindow e x
  · exact fun y s h => h.of (h.wen.congr rfl rfl rfl rfl rfl rfl) rfl rfl

theorem setCal (h : s.WeighingSound) {r : MachineRecord} (hr : s.wen.record = some r) {c : Calibration}
    (hc : c.Sound r.n) : (s.setCal c).WeighingSound :=
  h.of (h.wen.withCalibration _ fun y hy => by cases hy; exact ⟨r, hr, hc⟩) rfl rfl

/-- A run that has reached the last point is done, or completes the calibration with the averages as the curve (R94,
R98). -/
theorem runDone (h : s.WeighingSound) {r : MachineRecord} (hr : s.wen.record = some r) {c : Calibration}
    (hruns : 1 ≤ c.runs ∧ c.runs ≤ 4) (hdone : c.done < c.runs) (hsums : c.sums.length = r.n)
    (hbroken : c.broken ≤ 65535)
    (hbound : ∀ i, |c.sums.getD i 0| ≤ 524280 * (c.done + 1)) (x : Time) : (s.runDone c r.n x).WeighingSound := by
  unfold State.runDone
  dsimp only
  split
  · rename_i hmore
    refine (h.setCal hr (c := { c with done := c.done + 1, run := .armed none }) ?_).congr (by simp) (by simp)
    refine ⟨hruns, hmore, hsums, MachineRecord.ok_n (h.wen.record r hr), (fun _ hv => nomatch hv), fun i => ?_, hbroken⟩
    simpa [RunState.values] using hbound i
  · rename_i hlast
    have hall : c.done + 1 = c.runs := by omega
    have hcurve := (h.wen.setCurve c.target (v := c.averages) ⟨r, hr, by simp [Calibration.averages, hsums]⟩
      fun v hv => by
        obtain ⟨y, hy, rfl⟩ := List.mem_map.1 hv
        obtain ⟨i, hi⟩ := List.getElem?_of_mem hy
        have hb := hbound i
        rw [List.getD_eq_getElem?_getD, hi, Option.getD_some] at hb
        have hrun : (0 : Int) < c.runs := by omega
        refine (inCurveRange_iff _).2 (abs_rdiv_le (b := 524280) hrun.ne' ?_)
        rw [abs_of_pos hrun, ← hall]
        push_cast
        exact hb).withCalibration none fun _ hy => nomatch hy
    unfold State.completeCalibration
    dsimp only
    refine h.of (hcurve.congr ?_ ?_ ?_ ?_ ?_ ?_) ?_ ?_ <;> cases c.target <;>
      simp [State.changeMode_wen, ModeTarget.calibration, Wen.setCurve, Calibration.averages]

theorem capturePoints (h : s.WeighingSound) {r : MachineRecord} (hr : s.wen.record = some r) {c : Calibration}
    (hc : c.Sound r.n) (th0 f0 top th1 f1 : Int) (x : Time) :
    (s.capturePoints r c th0 f0 top c.run.values th1 f1 x).WeighingSound := by
  have hvs := r.captures_inRange c.run.values.length th0 f0 th1 f1
  have hlen : c.run.values.length + (r.captures c.run.values.length th0 f0 th1 f1).length ≤ r.n := by
    have := r.captures_length_le c.run.values.length th0 f0 th1 f1
    have := hc.count
    omega
  unfold State.capturePoints
  dsimp only
  split
  · exact h.runDone hr (c := { c with
        sums := addFrom c.sums c.run.values.length (r.captures c.run.values.length th0 f0 th1 f1)
        run := _ }) hc.runs hc.done (by simp [hc.sums]) hc.broken (hc.lastPoint hlen hvs) x
  · rename_i hmore
    refine h.setCal hr (hc.captures ?_ hvs rfl)
    simpa using hmore

theorem breakRun (h : s.WeighingSound) (reason : BreakReason) (x : Time) : (s.breakRun reason x).WeighingSound := by
  refine h.of ?_ (by simp) (by simp)
  rw [State.breakRun_wen]
  refine h.wen.withCalibration _ fun y hy => ?_
  obtain ⟨c, hc, rfl⟩ := Option.map_eq_some_iff.1 hy
  obtain ⟨r, hr, hs⟩ := h.wen.calibration c hc
  exact ⟨r, hr, hs.afterBreak⟩

theorem interruptRun (h : s.WeighingSound) (reason : BreakReason) (x : Time) :
    (s.interruptRun reason x).WeighingSound := by
  refine h.of ?_ (by simp) (by simp)
  rw [State.interruptRun_wen]
  refine h.wen.withCalibration _ fun y hy => ?_
  obtain ⟨c, hc, rfl⟩ := Option.map_eq_some_iff.1 hy
  obtain ⟨r, hr, hs⟩ := h.wen.calibration c hc
  exact ⟨r, hr, hs.interrupted⟩

theorem calHead (h : s.WeighingSound) {r : MachineRecord} (hr : s.wen.record = some r) {c : Calibration}
    (hc : c.Sound r.n) (x : Time) : (s.calHead r c x).WeighingSound := by
  have armed : ∀ start, c.run.values = [] → (s.setCal { c with run := .armed start }).WeighingSound := fun start hv =>
    h.setCal hr (hc.withRun _ hv.symm)
  unfold State.calHead
  split
  · rename_i start hrun
    have hv : c.run.values = [] := by rw [hrun]; rfl
    split
    · unfold State.armedSample
      split
      · split
        · rw [← hv]
          exact h.capturePoints hr hc _ _ _ _ _ _
        · exact armed _ hv
      · split
        · exact armed _ hv
        · exact h
    · exact armed _ hv
  · rename_i th0 f0 top values hrun
    have hv : c.run.values = values := by rw [hrun]; rfl
    split
    · exact h.breakRun _ _
    · split
      · exact h.breakRun _ _
      · split
        · exact h.breakRun _ _
        · rw [← hv]
          exact h.capturePoints hr hc _ _ _ _ _ _

theorem calBoom (h : s.WeighingSound) {r : MachineRecord} (hr : s.wen.record = some r) {c : Calibration}
    (hc : c.Sound r.n) (x : Time) : (s.calBoom r c x).WeighingSound := by
  unfold State.calBoom
  split
  · rename_i hrun _
    split
    · exact h.breakRun _ _
    · split
      · exact h.breakRun _ _
      · exact h.setCal hr (hc.withRun _ (by rw [hrun]; rfl))
  · exact h

theorem calPoint (h : s.WeighingSound) (isHead : Bool) (x : Time) : (s.calPoint isHead x).WeighingSound := by
  unfold State.calPoint
  split
  · split
    · rename_i r c hr hc
      obtain ⟨r', hr', hs⟩ := h.wen.calibration c hc
      obtain rfl : r = r' := Option.some.inj (hr.symm.trans hr')
      split
      · exact (h.noteLatest x).calHead (by simpa using hr) hs x
      · exact h.calBoom hr hs x
    · exact h
  · exact h

/-- A change of mode to CALIBRATE needs a PRESENT record and an R of 1..4 (R85). -/
theorem changeMode (h : s.WeighingSound) {m : ModeTarget}
    (hm : ∀ c n, m = .calibrate c n → s.calibrateBlock = none ∧ 1 ≤ n ∧ n ≤ 4) (cause : NoticeCause) (x : Time) :
    (s.changeMode m cause x).WeighingSound := by
  refine h.of ?_ (by simp) (by simp)
  rw [State.changeMode_wen]
  refine (h.wen.withCalibration (m.calibration s.wen.gridPoints) fun y hy => ?_).congr rfl rfl rfl rfl rfl rfl
  cases m with
  | config => cases hy
  | run => cases hy
  | calibrate c n =>
    obtain ⟨hblock, hruns⟩ := hm c n rfl
    obtain ⟨r, hr⟩ := Option.isSome_iff_exists.1 (s.calibrateBlock_eq_none.1 hblock).1
    refine ⟨r, hr, ?_⟩
    obtain rfl := Option.some.inj hy
    rw [Wen.gridPoints, hr]
    exact Calibration.Sound.start c hruns (MachineRecord.ok_n (h.wen.record r hr))

theorem applyDeferred (h : s.WeighingSound) (hd : ∀ c r, s.mgt.deferred = some (.calibrate c r) → 1 ≤ r ∧ r ≤ 4)
    (x : Time) : (s.applyDeferred x).WeighingSound := by
  have hset : (s.setDeferred none).WeighingSound := h.congr rfl rfl
  rcases State.applyDeferred_cases x s with ⟨-, he⟩ | ⟨-, d, hdef, ⟨hor, he⟩ | ⟨-, he⟩⟩ <;> rw [he]
  · exact h
  · refine hset.changeMode (fun c n hm => ?_) _ _
    cases d with
    | config => cases hm
    | calibrate c' n' =>
      cases hm
      exact ⟨hor.resolve_left (by simp), hd c n hdef⟩
  · exact hset

theorem dumpEvent (h : s.WeighingSound) (x : Time) : (s.dumpEvent x).WeighingSound := by
  have hw : (s.dumpEvent x).wen = s.wen ∨ (s.dumpEvent x).wen = (s.endWindow .dumped x).wen := by
    unfold State.dumpEvent
    split
    · exact .inr (by simp)
    · exact .inl rfl
  rcases hw with hw | hw
  · exact h.congr hw (by simp)
  · exact (h.endWindow .dumped x).congr hw (by simp)

theorem park (h : s.WeighingSound) (hd : ∀ c r, s.mgt.deferred = some (.calibrate c r) → 1 ≤ r ∧ r ≤ 4) (x : Time) :
    (s.park x).WeighingSound := by
  rw [State.park_eq]
  refine applyDeferred (h.of ?_ (by simp [State.parkWork_wen]) (by simp)) (by simpa using hd) x
  rw [State.parkWork_wen]
  refine (((h.endWindow .parked x).wen.withCalibration (s.wen.calibration.map Calibration.interrupted)
    fun y hy => ?_)).congr rfl rfl rfl rfl rfl rfl
  obtain ⟨c, hc, rfl⟩ := Option.map_eq_some_iff.1 hy
  obtain ⟨r, hr, hs⟩ := h.wen.calibration c hc
  exact ⟨r, by simpa using hr, hs.interrupted⟩

theorem mode (h : s.WeighingSound) {mode target runs : Nat} {m : ModeTarget}
    (hm : modeTargetOf mode target runs = some m) : (s.requestMode m).state.WeighingSound := by
  have hruns : ∀ c n, m = .calibrate c n → 1 ≤ n ∧ n ≤ 4 := by
    rintro c n rfl
    unfold modeTargetOf at hm
    (repeat' split at hm) <;> simp at hm
    obtain ⟨-, rfl⟩ := hm
    assumption
  have hset : ∀ d, (s.setDeferred d).WeighingSound := fun d => h.congr rfl rfl
  have hchange : ∀ block, (∀ c n, m = .calibrate c n → block = s.calibrateBlock) →
      (s.changeUnless block m).state.WeighingSound := by
    intro block hb
    unfold State.changeUnless
    split
    · exact h.changeMode (fun c n he => ⟨(hb c n he).symm, hruns c n he⟩) _ _
    · exact h
  unfold State.requestMode
  split
  · cases m <;> exact hset _
  · cases m with
    | config =>
      dsimp only
      split
      · exact h
      · exact hchange _ (by simp)
    | run =>
      dsimp only
      split
      · exact h
      · exact hchange _ (by simp)
    | calibrate c r => exact hchange _ fun _ _ _ => rfl

/-- A new record keeps the curves only on an unchanged grid (R44). -/
theorem loadRecord (h : s.WeighingSound) (hcal : s.wen.calibration = none) (hw : s.wen.window = none)
    (ha : s.mgt.assembly = none) {r : MachineRecord} (hr : r.ok = true) : (s.loadRecord r).WeighingSound := by
  have hgrid : ∀ (v : Option (List Int)) e, (if sameGrid s.wen.record r = true then v else none) = some e →
      (∀ e, v = some e → (∃ o, s.wen.record = some o ∧ e.length = o.n) ∧ ∀ y ∈ e, inCurveRange y) →
      (∃ o, some r = some o ∧ e.length = o.n) ∧ ∀ y ∈ e, inCurveRange y := by
    intro v e he hv
    split at he
    · rename_i hs
      obtain ⟨⟨o, ho, hlen⟩, hrange⟩ := hv e he
      refine ⟨⟨r, rfl, hlen.trans ?_⟩, hrange⟩
      simp only [sameGrid, ho, Bool.and_eq_true, decide_eq_true_eq] at hs
      exact hs.2
    · cases he
  refine State.WeighingSound.mk (Wen.Sound.mk ?_ h.wen.tare ?_ ?_ ?_ ?_) ?_
  · exact fun o ho => by cases ho; exact hr
  · exact fun e he => hgrid _ e he h.wen.curveE
  · exact fun e he => hgrid _ e he h.wen.curveL
  · exact fun y hy => absurd (hw.symm.trans hy) (by simp)
  · exact fun y hy => absurd (hcal.symm.trans hy) (by simp)
  · exact fun a hx => absurd (ha.symm.trans hx) (by simp)

/-- A curve load is opened only for the whole curve of the record in force (R52). -/
theorem openLoad (h : s.WeighingSound) {p : Port} {code first count : Nat} {k : Table}
    (hk : s.openCheck p code first count = .ok k) (x : Time) :
    (s.setAssembly (some (Assembly.start p k first count x))).WeighingSound := by
  refine h.withAssembly _ fun a ha hcurve => ?_
  obtain rfl := Option.some.inj ha
  have hfault : s.curveOpenFault k first count = none := by
    unfold State.openCheck at hk
    (repeat' split at hk) <;> cases hk
    assumption
  have hcheck : ∀ r, s.wen.record = some r → curveRun r first count = true →
      ∃ r, s.wen.record = some r ∧ count = r.n := by
    intro r hr hc
    simp only [curveRun, Bool.and_eq_true, decide_eq_true_eq] at hc
    exact ⟨r, hr, hc.2⟩
  have hkind : k = .curveE ∨ k = .curveL := hcurve
  unfold State.curveOpenFault at hfault
  rcases hkind with rfl | rfl <;> dsimp only at hfault <;> (repeat' split at hfault) <;> cases hfault <;>
    exact hcheck _ ‹_› ‹_›

/-- A load in progress goes on with the same run. -/
theorem keepLoad (h : s.WeighingSound) {a b : Assembly} (ha : s.mgt.assembly = some a) (ht : b.table = a.table)
    (hc : b.count = a.count) : (s.setAssembly (some b)).WeighingSound :=
  h.withAssembly _ fun x hx hk => by
    obtain rfl := Option.some.inj hx
    rw [hc]
    exact h.curveLoad a ha (ht ▸ hk)

/-- A curve load writes a value per grid point, each within the range (R48, R53). -/
theorem loadCurve (h : s.WeighingSound) {a : Assembly} (ha : s.mgt.assembly = some a)
    (hk : a.table = .curveE ∨ a.table = .curveL) {xs : List Int} (hlen : xs.length = a.count)
    (hxs : ∀ v ∈ xs, curveOk v = true) (c : CurveName) (x : Time) :
    ((s.setAssembly none).writeCurve c xs x).WeighingSound := by
  have hfree : (s.setAssembly none).WeighingSound := h.withAssembly none fun _ hx => nomatch hx
  obtain ⟨r, hr, hn⟩ := h.curveLoad a ha hk
  refine hfree.of ?_ (by simp) (by simp)
  rw [State.writeCurve_wen]
  refine h.wen.setCurve c ⟨r, hr, hlen.trans hn⟩ fun v hv => ?_
  simpa [curveOk, within, inCurveRange] using hxs v hv

end State.WeighingSound

/-! ### What O8 and O11 keep together -/

/-- The premise of O11 and what it keeps, as they hold while an event is handled and after it. -/
def State.WeighingWork (s : State) : Prop := s.WorkSound ∧ s.WeighingSound

def State.WeighingFit (s : State) : Prop := s.ModesSound ∧ s.WeighingSound

theorem readersWeighing : Readers State.WeighingWork State.WeighingFit where
  weaken s h := ⟨readersModesSound.weaken s h.1, h.2⟩
  testPoint b t s h := ⟨h.1.testPoint b t, h.2.testPoint b t⟩
  calPoint b t s h := ⟨h.1.calPoint b t, h.2.calPoint b t⟩
  evaluate t s h := ⟨h.1.evaluate t, h.2.congr (by simp) (by simp)⟩
  dumpEvent t s h := ⟨h.1.dumpEvent t, h.2.dumpEvent t⟩
  tip b s h := ⟨readersModesSound.tip b s h.1, h.2.congr rfl rfl⟩
  endWindow e t s h := ⟨h.1.endWindow e t, h.2.endWindow e t⟩
  interruptRun r t s h := ⟨h.1.interruptRun r t, h.2.interruptRun r t⟩
  applyDeferred t s h := ⟨h.1.applyDeferred t, h.2.applyDeferred h.1.deferredRuns t⟩

/-- Each event keeps the weighing engine within its ranges, given modes that fit. -/
theorem keptWeighing : Kept EveryRow State.WeighingFit where
  waiting _ _ _ h := ⟨h.1.congr rfl, h.2.congr rfl rfl⟩
  coldReset _ pins s := ⟨keptModesSound.coldReset ⟨pins, trivial⟩ pins s,
    ⟨by constructor <;> simp [State.cold, Wen.cold], by simp [State.cold, Mgt.cold]⟩⟩
  tick _ _ h := ⟨h.1.congr rfl, h.2.congr rfl rfl⟩
  offerE _ _ h := ⟨h.1.congr (by simp [State.work]), h.2.congr (by simp) (by simp)⟩
  latch _ _ h := ⟨h.1.congr rfl, h.2.congr rfl rfl⟩
  offerP _ _ h := ⟨h.1.congr (by simp [State.work]), h.2.congr (by simp) (by simp)⟩
  offerC _ _ h := ⟨h.1.congr (by simp [State.work]), h.2.congr (by simp) (by simp)⟩
  respond _ _ _ _ _ _ _ h := ⟨h.1.congr (by simp [State.work]), h.2.congr (by simp) (by simp)⟩
  free _ _ h := ⟨h.1.congr rfl, h.2.congr rfl rfl⟩
  handOff _ bytes t i s h := readersWeighing.handOff (fun r f s hf h => ⟨h.1.congr rfl, h.2.congr rfl rfl⟩)
    (fun bytes i v t s he h => ⟨h.1.congr (by simp [State.work]), h.2.congr (by simp) (by simp)⟩) bytes t i h
  hold _ _ _ _ _ h := ⟨h.1.congr rfl, h.2.congr rfl rfl⟩
  drained _ _ h := ⟨h.1.congr rfl, h.2.congr rfl rfl⟩
  refill _ _ _ _ _ _ _ h := ⟨h.1.congr rfl, h.2.congr rfl rfl⟩
  fresh _ _ _ _ _ h := ⟨h.1.congr rfl, h.2.congr rfl rfl⟩
  loss r x s hl h := readersWeighing.slotLost r x ⟨h.1.congr (by simp [State.work]), h.2.congr (by simp) (by simp)⟩
  timeout x s h := readersWeighing.timeout x h
  gauge _ _ _ h := ⟨h.1.congr (by simp [State.work]), h.2.congr (by simp) (by simp)⟩
  offerBoom _ x y s h := readersWeighing.offerBoom
    (fun _ _ _ _ _ _ _ h => ⟨h.1.congr (by simp [State.work]), h.2.congr (by simp) (by simp)⟩) x
    ⟨h.1.congr (by simp [State.work]), h.2.congr rfl rfl⟩
  phases _ _ _ _ h := ⟨h.1.congr rfl, h.2.congr rfl rfl⟩
  phaseError _ _ _ h := ⟨h.1.congr (by simp [State.work]), h.2.congr (by simp) (by simp)⟩
  index _ h := ⟨h.1.congr rfl, h.2.congr rfl rfl⟩
  line _ _ _ _ h := ⟨h.1.congr rfl, h.2.congr rfl rfl⟩
  dump t s h := readersWeighing.dump t h
  park t s hp h := ⟨keptModesSound.park t s hp h.1, h.2.park h.1.deferredRuns t⟩
  wake t s hp h := ⟨keptModesSound.wake t s hp h.1,
    h.2.of (h.2.wen.congr (by simp) (by simp [State.wake]) (by simp) (by simp) (by simp) (by simp)) (by simp) (by simp)⟩
  service s h := ⟨keptModesSound.service s h.1, by
    have hassembly : s.settleService.mgt.assembly = s.mgt.assembly ∨ s.settleService.mgt.assembly = none := by
      rcases s.settleService_mgt with he | he <;> rw [he]
      · exact .inl rfl
      · unfold Mgt.freeMachineLoad
        dsimp only
        (repeat' split) <;> simp [*]
    refine ⟨by simpa using h.2.wen, fun a ha => ?_⟩
    rcases hassembly with he | he <;> rw [he] at ha
    · simpa using h.2.curveLoad a ha
    · cases ha⟩
  arbiterTake _ _ _ _ h := ⟨h.1.congr rfl, h.2.congr rfl rfl⟩
  machineTake _ _ _ _ h := ⟨h.1.congr rfl, h.2.congr rfl rfl⟩
  cabSent _ _ _ h := ⟨h.1.congr rfl, h.2.congr rfl rfl⟩
  machineSent _ _ h := ⟨h.1.congr rfl, h.2.congr rfl rfl⟩
  failed _ _ _ h := ⟨h.1.congr (by simp [State.work]), h.2.congr (by simp) (by simp)⟩
  discarded _ _ _ _ h := ⟨h.1.congr (by simp [State.work]), h.2.congr (by simp) (by simp)⟩
  silenceEnd _ _ h := ⟨h.1.congr (by simp [State.work]), h.2.congr (by simp) (by simp)⟩
  reported _ _ _ _ h := ⟨h.1.congr (by simp [State.work]), h.2.congr (by simp) (by simp)⟩
  mode mode target runs m s hm h := ⟨h.1.mode hm, h.2.mode hm⟩
  openLoad p code first count k t s hk h := ⟨h.1.congr rfl, h.2.openLoad hk t⟩
  loadData a seq payload t s ha h := ⟨h.1.congr rfl, h.2.keepLoad ha (by unfold Assembly.afterData; split <;> rfl)
    (by unfold Assembly.afterData; split <;> rfl)⟩
  failLoad a s ha h := ⟨h.1.congr rfl, h.2.keepLoad ha rfl rfl⟩
  freeLoad s h := ⟨h.1.congr rfl, h.2.withAssembly none fun _ hx => nomatch hx⟩
  loadFat _ _ _ _ h := ⟨h.1.congr rfl, h.2.congr rfl rfl⟩
  loadSxt _ _ _ _ _ h := ⟨h.1.congr rfl, h.2.congr rfl rfl⟩
  loadRecord _ r s hm ha hr h := ⟨h.1.congr rfl, by
    have hout := (readersModesSound.weaken s h.1).outside_run (by simp [hm])
    have hcal : s.wen.calibration = none := by
      by_contra hc
      simpa [hm] using h.1.calibration.1 (Option.isSome_iff_ne_none.2 hc)
    exact h.2.loadRecord hcal hout.1 ha hr⟩
  loadCurve hc a c xs s hm ha hk hlen hxs h := ⟨keptModesSound.loadCurve hc a c xs s hm ha hk hlen hxs h.1,
    h.2.loadCurve ha hk hlen hxs c s.time⟩
  loadBands _ v s hm h := ⟨h.1.congr rfl, h.2.of (h.2.wen.congr rfl rfl rfl rfl rfl rfl) rfl rfl⟩
  loadMaterials _ _ _ _ _ _ h := ⟨h.1.congr rfl, h.2.congr rfl rfl⟩
  loadLines _ _ _ _ h := ⟨h.1.congr rfl, h.2.congr rfl rfl⟩
  tare s hm h := ⟨keptModesSound.tare s hm h.1, h.2.of (h.2.wen.congr rfl rfl rfl rfl rfl rfl) rfl rfl⟩
  cancelLast _ _ h := ⟨h.1.congr (by simp [State.work]), h.2.congr (by simp) (by simp)⟩
  nextTruck _ _ _ h := ⟨h.1.congr (by simp [State.work]), h.2.congr (by simp) (by simp)⟩
  shiftClose _ _ h := ⟨h.1.congr rfl, h.2.congr rfl rfl⟩
  target _ _ _ _ _ h := ⟨h.1.congr (by simp [State.work]), h.2.congr (by simp) (by simp)⟩
  material _ _ _ _ h := ⟨h.1.congr rfl, h.2.congr rfl rfl⟩
  holdChan _ _ h := ⟨h.1.congr rfl, h.2.congr rfl rfl⟩
  releaseChan _ _ h := ⟨h.1.congr rfl, h.2.congr rfl rfl⟩
  blockChan _ _ h := ⟨h.1.congr rfl, h.2.congr rfl rfl⟩
  unblockChan _ _ h := ⟨h.1.congr rfl, h.2.congr rfl rfl⟩
  toggle _ _ _ _ h := ⟨h.1.congr rfl, h.2.congr rfl rfl⟩
  capture _ _ _ h := ⟨h.1.congr rfl, h.2.congr rfl rfl⟩
  notices _ _ _ h := ⟨h.1.congr rfl, h.2.congr rfl rfl⟩
  clearAlerts _ _ h := ⟨h.1.congr rfl, h.2.congr rfl rfl⟩
  node _ _ _ h := ⟨h.1.congr rfl, h.2.congr rfl rfl⟩
  restart hr s h := ⟨keptModesSound.restart hr s h.1, by
    have hend := State.WeighingSound.endWindow (s := s.setDeferred none) (h.2.congr rfl rfl) .mode s.time
    exact ⟨⟨hend.wen.record, hend.wen.tare, hend.wen.curveE, hend.wen.curveL, fun _ hy => (nomatch hy),
      fun _ hy => (nomatch hy)⟩, fun _ ha => nomatch ha⟩⟩

/-- Settles O11: every event keeps the record checked, and tare, curves, sums, window and calibration in range. -/
theorem weighingStaysSound : Obligations.WeighingStaysSound := by
  unfold Obligations.WeighingStaysSound
  exact fun _ _ hm h hs => (keptWeighing.step ⟨hm, h⟩ hs).2

end Sys2Proof.Machine
end

section
/-! The rules over all commands: completion, the queue and the timebase, the capture budget. -/
namespace Sys2Proof.Machine

/-! ### Steps, ticks and resets -/

/-- Settles O1. -/
theorem stepRunsFrontCommand : Obligations.StepRunsFrontCommand := by
  unfold Obligations.StepRunsFrontCommand
  refine ⟨fun c rest s h => ?_, fun s h => ?_⟩
  · simp [step, h]
  · simp [step, h]

theorem Time.since_plus (t : Time) {d : Nat} (hd : d < 4294967296) : Time.since (Time.plus t d) t = d := by
  unfold Time.since Time.plus
  bv_omega

/-- Settles O3. -/
theorem tickAdvancesTheTimebase : Obligations.TickAdvancesTheTimebase := by
  unfold Obligations.TickAdvancesTheTimebase
  refine ⟨fun s => ⟨_, rfl, rfl, ?_⟩, fun t d hd => Time.since_plus t hd⟩
  have := s.time.isLt
  dsimp only
  split <;> bv_omega

/-- Settles O4: the cold values, one by one. -/
theorem coldResetSetsColdValues : Obligations.ColdResetSetsColdValues := by
  unfold Obligations.ColdResetSetsColdValues
  intro p s
  have hlines (i : Fin 4) : (Din.cold p).lines[i] = Line.cold p.lines[i] := by fin_cases i <;> rfl
  have hchan (ch : Channel) : Cport.cold.chan ch = ChannelState.cold := by cases ch <;> rfl
  have hslot (r : Role) : Sig.cold.slot r = Slot.cold := by cases r <;> rfl
  refine ⟨_, rfl, rfl, rfl, rfl, fun i => ?_, fun z => ?_, rfl, fun i => ?_, hslot, rfl, rfl, rfl, rfl, rfl, rfl,
      rfl, rfl,
    rfl, rfl, hlines, rfl, rfl, rfl, fun k => ?_, rfl, rfl, rfl, rfl, rfl, rfl, rfl, rfl, rfl, rfl, fun k => ?_,
        rfl, rfl,
    rfl, fun k => ?_, rfl, rfl, rfl, rfl, hchan, rfl, rfl, rfl, rfl, rfl, rfl, rfl, rfl, rfl, rfl⟩
  · simp [State.cold, Fcl.cold, FatEntry.cold]
  · simp [State.cold, Fcl.cold]
  · simp [State.cold, Sig.cold, SxtEntry.cold]
  · simp [State.cold, Wen.cold]
  · simp [State.cold, Lac.cold]
  · simp [State.cold, Lac.cold, Totals.zero, MaterialTotals.zero]

/-- Settles O5: a cold reset makes each invariant true. -/
theorem resetMeetsEveryInvariant : Obligations.ResetMeetsEveryInvariant := by
  unfold Obligations.ResetMeetsEveryInvariant
  have cold {P : State → Prop} (K : Kept EveryRow P) : P State.reset :=
    K.coldReset ⟨ResetPins.allLow, trivial⟩ ResetPins.allLow State.reset
  exact ⟨cold keptPortsSound, cold keptModesSound, cold keptReadySound, cold keptSlotsSound, cold keptRolesUnique,
    (cold keptWeighing).2, cold keptLoadsSound, cold keptMgtSound, cold keptParkedQuiet, cold keptHoldingSound⟩

/-! ### What the remaining operations leave unchanged -/

@[simp] theorem State.setAssembly_frame (a : Option Assembly) (s : State) :
    (s.setAssembly a).time = s.time ∧ (s.setAssembly a).baud = s.baud ∧ (s.setAssembly a).mport = s.mport ∧
    (s.setAssembly a).fcl = s.fcl ∧ (s.setAssembly a).sig = s.sig ∧ (s.setAssembly a).din = s.din ∧
    (s.setAssembly a).wen = s.wen ∧ (s.setAssembly a).cyt = s.cyt ∧ (s.setAssembly a).lac = s.lac ∧
    (s.setAssembly a).cport = s.cport ∧ (s.setAssembly a).mgt.mode = s.mgt.mode ∧
    (s.setAssembly a).mgt.mask = s.mgt.mask ∧ (s.setAssembly a).mgt.node = s.mgt.node ∧
    (s.setAssembly a).pending = s.pending := by
  simp [State.setAssembly]

@[simp] theorem State.loadFat_frame (first : Nat) (xs : List FatEntry) (s : State) :
    (s.loadFat first xs).time = s.time ∧ (s.loadFat first xs).baud = s.baud ∧ (s.loadFat first xs).cport = s.cport ∧
    (s.loadFat first xs).pending = s.pending := by
  simp [State.loadFat]

@[simp] theorem State.endWork_frame (s : State) :
    s.endWork.time = s.time ∧ s.endWork.baud = s.baud ∧ s.endWork.mport = s.mport ∧ s.endWork.fcl = s.fcl ∧
    s.endWork.sig = s.sig ∧ s.endWork.din = s.din ∧ s.endWork.wen.record = s.wen.record ∧
    s.endWork.wen.curveE = s.wen.curveE ∧ s.endWork.wen.curveL = s.wen.curveL ∧ s.endWork.wen.bands = s.wen.bands ∧
    s.endWork.lac = s.lac ∧ s.endWork.mgt.mask = s.mgt.mask ∧ s.endWork.mgt.node = s.mgt.node ∧
    s.endWork.pending = s.pending := by
  simp [State.endWork]

@[simp] theorem State.warmValues_frame (s : State) :
    s.warmValues.time = s.time ∧ s.warmValues.baud = s.baud ∧ s.warmValues.din = s.din ∧ s.warmValues.lac = s.lac ∧
    s.warmValues.fcl = s.fcl.clearHolding ∧ s.warmValues.sig.sxt = s.sig.sxt ∧ s.warmValues.wen = s.wen.warm ∧
    s.warmValues.cyt = s.cyt.toIdle ∧ s.warmValues.mport = Mport.cold ∧ s.warmValues.mgt = s.mgt.warm ∧
    s.warmValues.pending = s.pending := by
  simp [State.warmValues]

/-! ### The queue, the timebase and the bit rate -/

/-- The rows that leave the timebase: all but a cold reset and a tick. -/
def KeepsTime : Instr → Prop
  | .coldReset _ | .timebaseTick => False
  | _ => True

/-- The queue, the bit rate and the timebase stand at the given values. -/
def State.Clocked (q : List Instr) (baud : Nat) (t : Time) (s : State) : Prop :=
  s.pending = q ∧ s.baud = baud ∧ s.time = t

theorem keptClocked (q : List Instr) (baud : Nat) (t : Time) : Kept KeepsTime (State.Clocked q baud t) where
  waiting hr _ _ _ := absurd (hr .timebaseTick) (by simp [KeepsTime])
  coldReset hr _ _ := absurd hr (by simp [KeepsTime])
  tick hr _ _ := absurd hr (by simp [KeepsTime])
  offerE _ _ h := by simpa [State.Clocked] using h
  latch _ _ h := by simpa [State.Clocked] using h
  offerP _ _ h := by simpa [State.Clocked] using h
  offerC _ _ h := by simpa [State.Clocked] using h
  respond _ _ _ _ _ _ _ h := by simpa [State.Clocked] using h
  free _ _ h := by simpa [State.Clocked] using h
  handOff _ _ _ _ _ h := by simpa [State.Clocked] using h
  hold _ _ _ _ _ h := by simpa [State.Clocked] using h
  drained _ _ h := by simpa [State.Clocked] using h
  refill _ _ _ _ _ _ _ h := by simpa [State.Clocked] using h
  fresh _ _ _ _ _ h := by simpa [State.Clocked] using h
  loss r x s _ h := by unfold State.slotLost; dsimp only; split <;> exact (by simpa [State.Clocked] using h)
  timeout _ _ h := by simpa [State.Clocked] using h
  gauge _ _ _ h := by simpa [State.Clocked] using h
  offerBoom _ _ _ _ h := by simpa [State.Clocked] using h
  phases _ _ _ _ h := by simpa [State.Clocked] using h
  phaseError _ _ _ h := by simpa [State.Clocked] using h
  index _ h := by simpa [State.Clocked] using h
  line _ _ _ _ h := by simpa [State.Clocked] using h
  dump _ _ h := by simpa [State.Clocked] using h
  park _ _ _ h := by simpa [State.Clocked] using h
  wake _ _ _ h := by simpa [State.Clocked] using h
  service _ h := by simpa [State.Clocked] using h
  arbiterTake _ _ _ _ h := by simpa [State.Clocked] using h
  machineTake _ _ _ _ h := by simpa [State.Clocked] using h
  cabSent _ _ _ h := by simpa [State.Clocked] using h
  machineSent _ _ h := by simpa [State.Clocked] using h
  failed _ _ _ h := by simpa [State.Clocked] using h
  discarded _ _ _ _ h := by simpa [State.Clocked] using h
  silenceEnd _ _ h := by simpa [State.Clocked] using h
  reported _ _ _ _ h := by simpa [State.Clocked] using h
  mode _ _ _ _ _ _ h := by simpa [State.Clocked] using h
  openLoad _ _ _ _ _ _ _ _ h := by simpa [State.Clocked] using h
  loadData _ _ _ _ _ _ h := by simpa [State.Clocked] using h
  failLoad _ _ _ h := by simpa [State.Clocked] using h
  freeLoad _ h := by simpa [State.Clocked] using h
  loadFat _ _ _ _ h := by simpa [State.Clocked] using h
  loadSxt _ v s _ _ h := by simpa [State.Clocked, State.loadSxt] using h
  loadRecord _ r s _ _ _ h := by simpa [State.Clocked, State.loadRecord] using h
  loadCurve _ _ _ _ _ _ _ _ _ _ h := by simpa [State.Clocked] using h
  loadBands _ _ _ _ h := by simpa [State.Clocked] using h
  loadMaterials _ _ _ _ _ _ h := by simpa [State.Clocked] using h
  loadLines _ _ _ _ h := by simpa [State.Clocked] using h
  tare _ _ h := by simpa [State.Clocked] using h
  cancelLast _ _ h := by simpa [State.Clocked] using h
  nextTruck _ _ _ h := by simpa [State.Clocked] using h
  shiftClose _ _ h := by simpa [State.Clocked] using h
  target _ _ _ _ _ h := by simpa [State.Clocked] using h
  material _ _ _ _ h := by simpa [State.Clocked] using h
  holdChan _ _ h := by simpa [State.Clocked] using h
  releaseChan _ _ h := by simpa [State.Clocked] using h
  blockChan _ _ h := by simpa [State.Clocked] using h
  unblockChan _ _ h := by simpa [State.Clocked] using h
  toggle _ _ _ _ h := by simpa [State.Clocked] using h
  capture _ _ _ h := by simpa [State.Clocked] using h
  notices _ _ _ h := by simpa [State.Clocked] using h
  clearAlerts _ _ h := by simpa [State.Clocked] using h
  node _ _ _ h := by simpa [State.Clocked] using h
  restart _ _ h := by simpa [State.Clocked] using h

/-- Settles O2. -/
theorem everyCommandCompletes : Obligations.EveryCommandCompletes := by
  unfold Obligations.EveryCommandCompletes
  intro c s
  have hnext : ∃ t, exec c s = .next t := by cases c <;> exact ⟨_, rfl⟩
  obtain ⟨t, he⟩ := hnext
  have keeps (hr : ∀ pins, c ≠ .coldReset pins) (ht : c ≠ .timebaseTick) : t.Clocked s.pending s.baud s.time := by
    refine (keptClocked _ _ _).exec ?_ (fun _ i b hb => ?_) he ⟨rfl, rfl, rfl⟩
    · cases c <;> first | trivial | exact absurd rfl (hr _)
    · cases i <;> trivial
  refine ⟨t, he, ?_⟩
  by_cases ht : c = .timebaseTick
  · subst ht
    cases he
    exact ⟨rfl, fun _ => ⟨rfl, fun h => absurd rfl h⟩⟩
  · by_cases hr : ∃ pins, c = .coldReset pins
    · obtain ⟨pins, rfl⟩ := hr
      cases he
      exact ⟨rfl, fun h => absurd rfl (h pins)⟩
    · obtain ⟨hq, hb, hm⟩ := keeps (fun pins h => hr ⟨pins, h⟩) ht
      exact ⟨hq, fun _ => ⟨hb, fun _ => hm⟩⟩

/-! ### The capture budget -/

@[simp] theorem Cport.setToggle_budget (p : Cport) (ch : Channel) (v : Bool) :
    (p.setToggle ch v).budget = p.budget := by
  cases ch <;> rfl

@[simp] theorem Cport.setPending_budget (p : Cport) (ch : Channel) (v : Option Bool) :
    (p.setPending ch v).budget = p.budget := by
  cases ch <;> rfl

@[simp] theorem Cport.settleToggle_budget (p : Cport) (ch : Channel) : (p.settleToggle ch).budget = p.budget := by
  unfold Cport.settleToggle
  split <;> simp

@[simp] theorem Cport.flipToggle_budget (p : Cport) (ch : Channel) : (p.flipToggle ch).budget = p.budget := by
  unfold Cport.flipToggle
  split <;> simp

@[simp] theorem Cport.flush_budget (p : Cport) (ch : Channel) : (p.flush ch).budget = p.budget := by
  simp [Cport.flush]

@[simp] theorem Cport.marks_budget (p : Cport) (ch : Channel) :
    (p.holdChan ch).budget = p.budget ∧ (p.releaseChan ch).budget = p.budget ∧ (p.blockChan ch).budget = p.budget ∧
    (p.unblockChan ch).budget = p.budget := by
  refine ⟨by simp [Cport.holdChan], by simp [Cport.releaseChan], ?_, by simp [Cport.unblockChan]⟩
  unfold Cport.blockChan
  dsimp only
  split <;> simp

@[simp] theorem Cport.forceToggle_budget (p : Cport) (ch : Channel) (v : Bool) :
    (p.forceToggle ch v).budget = p.budget := by
  unfold Cport.forceToggle
  split <;> simp

@[simp] theorem Cport.transmit_budget (p : Cport) (ch : Channel) :
    (p.takeFrom ch).budget = p.budget ∧ (p.letGo ch).budget = p.budget ∧ (p.sent ch).budget = p.budget := by
  simp [Cport.takeFrom, Cport.letGo, Cport.sent]

@[simp] theorem State.setTx_budget (p : Port) (x : TxState) (s : State) :
    (s.setTx p x).cport.budget = s.cport.budget := by
  cases p <;> rfl

@[simp] theorem State.discardCarried_budget (p : Port) (s : State) :
    (s.discardCarried p).cport.budget = s.cport.budget := by
  unfold State.discardCarried
  split
  · split <;> simp
  · rfl


/-- The budget has not passed `b`, and still stands at 65,535 where `b` does. -/
def State.BudgetWithin (b : Nat) (s : State) : Prop :=
  s.cport.budget ≤ b ∧ (b = 65535 → s.cport.budget = 65535)

theorem State.BudgetWithin.offerC {b : Nat} {s : State} (h : s.BudgetWithin b) (f : Frame) :
    (s.offerC f).BudgetWithin b := by
  obtain ⟨hle, hfull⟩ := h
  have hb : budgetAfter s.cport.budget ≤ s.cport.budget ∧
      (s.cport.budget = 65535 → budgetAfter s.cport.budget = 65535) := by
    unfold budgetAfter max16
    split <;> omega
  unfold State.offerC
  split
  · exact ⟨hle, hfull⟩
  · split
    · split
      · refine ⟨?_, fun h => ?_⟩ <;> simp <;> omega
      · refine ⟨?_, fun h => ?_⟩ <;> simp <;> omega
    · exact ⟨hle, hfull⟩

theorem keptBudget (b : Nat) : Kept (fun c => setsBudget c = false) (State.BudgetWithin b) where
  waiting _ _ _ h := h
  coldReset hr _ _ := absurd hr (by simp [setsBudget])
  tick _ _ h := by simpa [State.BudgetWithin] using h
  offerE _ _ h := by simpa [State.BudgetWithin] using h
  latch _ _ h := by simpa [State.BudgetWithin] using h
  offerP _ _ h := by simpa [State.BudgetWithin] using h
  offerC f s h := State.BudgetWithin.offerC h f
  respond _ _ _ _ _ _ _ h := by simpa [State.BudgetWithin] using h
  free _ _ h := by simpa [State.BudgetWithin] using h
  handOff _ _ _ _ _ h := by simpa [State.BudgetWithin] using h
  hold _ _ _ _ _ h := by simpa [State.BudgetWithin] using h
  drained _ _ h := by simpa [State.BudgetWithin] using h
  refill _ _ _ _ _ _ _ h := by simpa [State.BudgetWithin] using h
  fresh _ _ _ _ _ h := by simpa [State.BudgetWithin] using h
  loss r x s _ h := by unfold State.slotLost; dsimp only; split <;> exact (by simpa [State.BudgetWithin] using h)
  timeout _ _ h := by simpa [State.BudgetWithin] using h
  gauge _ _ _ h := by simpa [State.BudgetWithin] using h
  offerBoom _ _ _ _ h := by simpa [State.BudgetWithin] using h
  phases _ _ _ _ h := by simpa [State.BudgetWithin] using h
  phaseError _ _ _ h := by simpa [State.BudgetWithin] using h
  index _ h := by simpa [State.BudgetWithin] using h
  line _ _ _ _ h := by simpa [State.BudgetWithin] using h
  dump _ _ h := by simpa [State.BudgetWithin] using h
  park _ _ _ h := by simpa [State.BudgetWithin] using h
  wake _ _ _ h := by simpa [State.BudgetWithin] using h
  service _ h := by simpa [State.BudgetWithin] using h
  arbiterTake _ _ _ _ h := by simpa [State.BudgetWithin] using h
  machineTake _ _ _ _ h := by simpa [State.BudgetWithin] using h
  cabSent _ _ _ h := by simpa [State.BudgetWithin] using h
  machineSent _ _ h := by simpa [State.BudgetWithin] using h
  failed _ _ _ h := by simpa [State.BudgetWithin] using h
  discarded _ _ _ _ h := by simpa [State.BudgetWithin] using h
  silenceEnd _ _ h := by simpa [State.BudgetWithin] using h
  reported _ _ _ _ h := by simpa [State.BudgetWithin] using h
  mode _ _ _ _ _ _ h := by simpa [State.BudgetWithin] using h
  openLoad _ _ _ _ _ _ _ _ h := by simpa [State.BudgetWithin] using h
  loadData _ _ _ _ _ _ h := by simpa [State.BudgetWithin] using h
  failLoad _ _ _ h := by simpa [State.BudgetWithin] using h
  freeLoad _ h := by simpa [State.BudgetWithin] using h
  loadFat _ _ _ _ h := by simpa [State.BudgetWithin] using h
  loadSxt _ v s _ _ h := by simpa [State.BudgetWithin, State.loadSxt] using h
  loadRecord _ r s _ _ _ h := by simpa [State.BudgetWithin, State.loadRecord] using h
  loadCurve _ _ _ _ _ _ _ _ _ _ h := by simpa [State.BudgetWithin] using h
  loadBands _ _ _ _ h := by simpa [State.BudgetWithin] using h
  loadMaterials _ _ _ _ _ _ h := by simpa [State.BudgetWithin] using h
  loadLines _ _ _ _ h := by simpa [State.BudgetWithin] using h
  tare _ _ h := by simpa [State.BudgetWithin] using h
  cancelLast _ _ h := by simpa [State.BudgetWithin] using h
  nextTruck _ _ _ h := by simpa [State.BudgetWithin] using h
  shiftClose _ _ h := by simpa [State.BudgetWithin] using h
  target _ _ _ _ _ h := by simpa [State.BudgetWithin] using h
  material _ _ _ _ h := by simpa [State.BudgetWithin] using h
  holdChan _ _ h := by simpa [State.BudgetWithin] using h
  releaseChan _ _ h := by simpa [State.BudgetWithin] using h
  blockChan _ _ h := by simpa [State.BudgetWithin] using h
  unblockChan _ _ h := by simpa [State.BudgetWithin] using h
  toggle _ _ _ _ h := by simpa [State.BudgetWithin] using h
  capture hr _ _ _ := absurd hr (by simp [setsBudget])
  notices _ _ _ h := by simpa [State.BudgetWithin] using h
  clearAlerts _ _ h := by simpa [State.BudgetWithin] using h
  node _ _ _ h := by simpa [State.BudgetWithin] using h
  restart hr _ _ := absurd hr (by simp [setsBudget])

/-- Settles O16. -/
theorem budgetNeverIncreases : Obligations.BudgetNeverIncreases := by
  unfold Obligations.BudgetNeverIncreases
  intro c s t he hc hr
  refine (keptBudget s.cport.budget).exec hc (fun h => ?_) he ⟨le_refl _, id⟩
  simp [hr] at h

end Sys2Proof.Machine
end

section
/-! What changes the tables, the node, the notice mask and the curves. -/
namespace Sys2Proof.Machine

/-! ### Tables, line settings, node and mask -/

/-- What a line is set to do. -/
def Line.setting (l : Line) : LineFunction × LineEdge × Nat := (l.function, l.edge, l.debounce)

/-- The tables, the line settings, the node and the notice mask. -/
structure Tables where
  fat : Vector FatEntry 48
  zones : Vector Policy 8
  standard : Policy
  sxt : Vector SxtEntry 16
  record : Option MachineRecord
  bands : Vector Band 8
  materials : Vector Nat 16
  lines : Fin 4 → LineFunction × LineEdge × Nat
  node : Byte
  mask : BitVec 16

def State.tables (s : State) : Tables :=
  { fat := s.fcl.fat, zones := s.fcl.zones, standard := s.fcl.standard, sxt := s.sig.sxt, record := s.wen.record,
    bands := s.wen.bands, materials := s.lac.materials, lines := fun i => s.din.lines[i].setting, node := s.mgt.node,
    mask := s.mgt.mask }

@[simp] theorem Fcl.setHolding_frame (i : Fin 48) (f : Option Frame) (x : Option Time) (c : Fcl) :
    (c.setHolding i f x).fat = c.fat ∧ (c.setHolding i f x).zones = c.zones ∧
    (c.setHolding i f x).standard = c.standard := ⟨rfl, rfl, rfl⟩

@[simp] theorem Fcl.clearHolding_frame (c : Fcl) :
    c.clearHolding.fat = c.fat ∧ c.clearHolding.zones = c.zones ∧ c.clearHolding.standard = c.standard :=
        ⟨rfl, rfl, rfl⟩

@[simp] theorem State.park_fcl (t : Time) (s : State) : (s.park t).fcl = s.fcl.clearHolding := by
  rw [State.park_eq]
  simp

@[simp] theorem Lac.withTarget_materials (a : Lac) (target tolerance : Nat) :
    (a.withTarget target tolerance).materials = a.materials := rfl

@[simp] theorem Lac.chooseMaterial_materials (a : Lac) (k : Fin 16) :
    (a.chooseMaterial k).materials = a.materials := by
  unfold Lac.chooseMaterial
  split <;> rfl

@[simp] theorem Wen.warm_frame (w : Wen) :
    w.warm.record = w.record ∧ w.warm.bands = w.bands ∧ w.warm.curveE = w.curveE ∧ w.warm.curveL = w.curveL :=
  ⟨rfl, rfl, rfl, rfl⟩

@[simp] theorem Mgt.warm_frame (m : Mgt) : m.warm.node = m.node ∧ m.warm.mask = m.mask := ⟨rfl, rfl⟩

/-- A line changed in what is not its setting keeps the settings. -/
theorem Line.setting_set {f : Line → Line} (hf : ∀ l, (f l).setting = l.setting) (lines : Vector Line 4) (i j : Fin 4) :
    ((lines.set i (f lines[i]))[j]).setting = lines[j].setting := by
  by_cases h : i = j
  · subst h
    simpa using hf _
  · have hv : (i : Nat) ≠ j := fun he => h (Fin.ext he)
    simp [hv]

theorem State.tables_modLine {f : Line → Line} (hf : ∀ l, (f l).setting = l.setting) (i : Fin 4) (s : State) :
    (s.modLine i f).tables = s.tables := by
  have h (j : Fin 4) := Line.setting_set hf s.din.lines i j
  simp only [State.tables, State.modLine, State.modDin]
  simp only [h]

theorem State.tables_clearReported (page item part : Nat) (s : State) :
    (s.clearReported page item part).tables = s.tables := by
  unfold State.clearReported
  split
  · exact State.tables_modLine (f := fun l => { l with flag := false }) (fun _ => rfl) _ s
  · rfl

theorem not_closes : ¬ Closes (fun c => configures c = false) := by
  simp [Closes, configures]

theorem keptTables (k : Tables) : Kept (fun c => configures c = false) (fun s => s.tables = k) where
  waiting _ _ _ h := h
  coldReset hr _ _ := absurd hr (by simp [configures])
  tick _ _ h := by simpa [State.tables] using h
  offerE _ _ h := by simpa [State.tables] using h
  latch _ _ h := by simpa [State.tables] using h
  offerP _ _ h := by simpa [State.tables] using h
  offerC _ _ h := by simpa [State.tables] using h
  respond _ _ _ _ _ _ _ h := by simpa [State.tables] using h
  free _ _ h := by simpa [State.tables] using h
  handOff _ _ _ _ _ h := by simpa [State.tables] using h
  hold _ _ _ _ _ h := by simpa [State.tables] using h
  drained _ _ h := by simpa [State.tables] using h
  refill _ _ _ _ _ _ _ h := by simpa [State.tables] using h
  fresh _ _ _ _ _ h := by simpa [State.tables] using h
  loss r x s _ h := by unfold State.slotLost; dsimp only; split <;> exact (by simpa [State.tables] using h)
  timeout _ _ h := by simpa [State.tables] using h
  gauge _ _ _ h := by simpa [State.tables] using h
  offerBoom _ _ _ _ h := by simpa [State.tables] using h
  phases _ _ _ _ h := by simpa [State.tables] using h
  phaseError _ _ _ h := by simpa [State.tables] using h
  index _ h := by simpa [State.tables] using h
  line i f s hf h := (State.tables_modLine (fun l => by simp [Line.setting, hf]) i s).trans h
  dump _ _ h := by simpa [State.tables] using h
  park t s _ h := by simpa [State.tables] using h
  wake _ _ _ h := by simpa [State.tables] using h
  service _ h := by simpa [State.tables] using h
  arbiterTake _ _ _ _ h := by simpa [State.tables] using h
  machineTake _ _ _ _ h := by simpa [State.tables] using h
  cabSent _ _ _ h := by simpa [State.tables] using h
  machineSent _ _ h := by simpa [State.tables] using h
  failed _ _ _ h := by simpa [State.tables] using h
  discarded _ _ _ _ h := by simpa [State.tables] using h
  silenceEnd _ _ h := by simpa [State.tables] using h
  reported page item part s h := (State.tables_clearReported page item part s).trans h
  mode _ _ _ _ _ _ h := by simpa [State.tables] using h
  openLoad _ _ _ _ _ _ _ _ h := by simpa [State.tables] using h
  loadData _ _ _ _ _ _ h := by simpa [State.tables] using h
  failLoad _ _ _ h := by simpa [State.tables] using h
  freeLoad _ h := by simpa [State.tables] using h
  loadFat hr _ _ _ _ := absurd hr not_closes
  loadSxt hr _ _ _ _ _ := absurd hr not_closes
  loadRecord hr _ _ _ _ _ _ := absurd hr not_closes
  loadCurve hr _ _ _ _ _ _ _ _ _ _ := absurd hr not_closes
  loadBands hr _ _ _ _ := absurd hr not_closes
  loadMaterials hr _ _ _ _ _ _ := absurd hr not_closes
  loadLines hr _ _ _ _ := absurd hr not_closes
  tare _ _ h := by simpa [State.tables] using h
  cancelLast _ _ h := by simpa [State.tables] using h
  nextTruck _ _ _ h := by simpa [State.tables] using h
  shiftClose _ _ h := by simpa [State.tables] using h
  target _ _ _ _ _ h := by simpa [State.tables] using h
  material _ _ _ _ h := by simpa [State.tables] using h
  holdChan _ _ h := by simpa [State.tables] using h
  releaseChan _ _ h := by simpa [State.tables] using h
  blockChan _ _ h := by simpa [State.tables] using h
  unblockChan _ _ h := by simpa [State.tables] using h
  toggle _ _ _ _ h := by simpa [State.tables] using h
  capture _ _ _ h := by simpa [State.tables] using h
  notices hr _ _ _ := absurd hr (by simp [configures])
  clearAlerts _ _ h := by simpa [State.tables] using h
  node hr _ _ _ := absurd hr (by simp [configures])
  restart _ s h := by simpa [State.tables] using h

/-! ### The curves -/

/-- Rows that neither configure nor accept a value of BOOM or HEAD. -/
def PlainRow (c : Instr) : Prop :=
  configures c = false ∧ (∀ a, c ≠ .machineArrival a) ∧ c ≠ .encoderOfferTick

theorem not_plain_closes : ¬ Closes PlainRow := by
  simp [Closes, PlainRow, configures]

/-- The two curves. -/
def State.curves (s : State) : Option (List Int) × Option (List Int) := (s.wen.curveE, s.wen.curveL)

theorem keptCurves (k : Option (List Int) × Option (List Int)) : Kept PlainRow (fun s => s.curves = k) where
  waiting _ _ _ h := h
  coldReset hr _ _ := absurd hr (by simp [PlainRow, configures])
  tick _ _ h := by simpa [State.curves] using h
  offerE _ _ h := by simpa [State.curves] using h
  latch _ _ h := by simpa [State.curves] using h
  offerP _ _ h := by simpa [State.curves] using h
  offerC _ _ h := by simpa [State.curves] using h
  respond _ _ _ _ _ _ _ h := by simpa [State.curves] using h
  free _ _ h := by simpa [State.curves] using h
  handOff hr _ _ _ _ _ := absurd hr (by simp [PlainRow])
  hold _ _ _ _ _ h := by simpa [State.curves] using h
  drained _ _ h := by simpa [State.curves] using h
  refill _ _ _ _ _ _ _ h := by simpa [State.curves] using h
  fresh _ _ _ _ _ h := by simpa [State.curves] using h
  loss r x s _ h := by unfold State.slotLost; dsimp only; split <;> exact (by simpa [State.curves] using h)
  timeout _ _ h := by simpa [State.curves] using h
  gauge _ _ _ h := by simpa [State.curves] using h
  offerBoom hr _ _ _ _ := absurd hr (by simp [PlainRow])
  phases _ _ _ _ h := by simpa [State.curves] using h
  phaseError _ _ _ h := by simpa [State.curves] using h
  index _ h := by simpa [State.curves] using h
  line _ _ _ _ h := by simpa [State.curves] using h
  dump _ _ h := by simpa [State.curves] using h
  park _ _ _ h := by simpa [State.curves] using h
  wake _ _ _ h := by simpa [State.curves] using h
  service _ h := by simpa [State.curves] using h
  arbiterTake _ _ _ _ h := by simpa [State.curves] using h
  machineTake _ _ _ _ h := by simpa [State.curves] using h
  cabSent _ _ _ h := by simpa [State.curves] using h
  machineSent _ _ h := by simpa [State.curves] using h
  failed _ _ _ h := by simpa [State.curves] using h
  discarded _ _ _ _ h := by simpa [State.curves] using h
  silenceEnd _ _ h := by simpa [State.curves] using h
  reported _ _ _ _ h := by simpa [State.curves] using h
  mode _ _ _ _ _ _ h := by simpa [State.curves] using h
  openLoad _ _ _ _ _ _ _ _ h := by simpa [State.curves] using h
  loadData _ _ _ _ _ _ h := by simpa [State.curves] using h
  failLoad _ _ _ h := by simpa [State.curves] using h
  freeLoad _ h := by simpa [State.curves] using h
  loadFat hr _ _ _ _ := absurd hr not_plain_closes
  loadSxt hr _ _ _ _ _ := absurd hr not_plain_closes
  loadRecord hr _ _ _ _ _ _ := absurd hr not_plain_closes
  loadCurve hr _ _ _ _ _ _ _ _ _ _ := absurd hr not_plain_closes
  loadBands hr _ _ _ _ := absurd hr not_plain_closes
  loadMaterials hr _ _ _ _ _ _ := absurd hr not_plain_closes
  loadLines hr _ _ _ _ := absurd hr not_plain_closes
  tare _ _ h := by simpa [State.curves] using h
  cancelLast _ _ h := by simpa [State.curves] using h
  nextTruck _ _ _ h := by simpa [State.curves] using h
  shiftClose _ _ h := by simpa [State.curves] using h
  target _ _ _ _ _ h := by simpa [State.curves] using h
  material _ _ _ _ h := by simpa [State.curves] using h
  holdChan _ _ h := by simpa [State.curves] using h
  releaseChan _ _ h := by simpa [State.curves] using h
  blockChan _ _ h := by simpa [State.curves] using h
  unblockChan _ _ h := by simpa [State.curves] using h
  toggle _ _ _ _ h := by simpa [State.curves] using h
  capture _ _ _ h := by simpa [State.curves] using h
  notices hr _ _ _ := absurd hr (by simp [PlainRow, configures])
  clearAlerts _ _ h := by simpa [State.curves] using h
  node hr _ _ _ := absurd hr (by simp [PlainRow, configures])
  restart _ _ h := by simpa [State.curves] using h

/-- A calibration under way has not taken a sample yet. -/
def State.CalFresh (s : State) : Prop :=
  s.mgt.mode = .calibrate → ∀ c, s.wen.calibration = some c → c.run = .armed none

theorem State.CalFresh.of_ne {s : State} (h : s.mgt.mode ≠ .calibrate) : s.CalFresh := fun hm => absurd hm h

theorem State.CalFresh.congr {s t : State} (h : s.CalFresh) (hm : t.mgt.mode = s.mgt.mode)
    (hc : t.wen.calibration = s.wen.calibration) : t.CalFresh := by
  unfold State.CalFresh
  rw [hm, hc]
  exact h

@[simp] theorem State.calPoint_curves {s : State} (h : s.CalFresh) (isHead : Bool) (t : Time) :
    (s.calPoint isHead t).curves = s.curves := by
  unfold State.calPoint
  split
  · rename_i hm
    split
    · rename_i r c hr hc
      have hrun := h hm.1 c hc
      split
      · unfold State.calHead
        rw [hrun]
        dsimp only
        split
        · unfold State.armedSample
          dsimp only
          split <;> simp [State.curves]
        · simp [State.curves]
      · simp [State.calBoom, hrun]
    · rfl
  · rfl

/-- A deferred change enters CALIBRATE with a calibration that has not taken a sample. -/
theorem State.applyDeferred_fresh {s : State} (h : s.mgt.mode ≠ .calibrate) (t : Time) :
    (s.applyDeferred t).CalFresh := by
  obtain ⟨-, he⟩ | ⟨-, d, -, ⟨-, he⟩ | ⟨-, he⟩⟩ := State.applyDeferred_cases t s
  · rw [he]
    exact .of_ne h
  · intro _ c hc
    rw [he, State.changeMode_wen] at hc
    cases d with
    | config => cases hc
    | calibrate target runs => cases hc; rfl
  · rw [he]
    exact .of_ne (by simpa using h)

/-- Reading a value writes no curve while the calibration has not taken a sample. -/
theorem State.readAccepted_curves {s : State} (h : s.CalFresh) (r : Role) (v : Int) (t : Time) :
    (s.readAccepted r v t).curves = s.curves := by
  have point (isHead : Bool) :
      ((((s.testPoint isHead t).calPoint isHead t).evaluate t).applyDeferred t).curves = s.curves := by
    have hp : (s.testPoint isHead t).CalFresh := h.congr (by simp) (by simp)
    have hc := State.calPoint_curves hp isHead t
    simpa [State.curves] using hc
  cases r
  case head => exact point true
  case boom => exact point false
  case tilt => simp [State.readAccepted, State.curves]
  all_goals rfl

theorem State.readAccepted_fresh {s : State} (h : s.mgt.mode ≠ .calibrate) (r : Role) (v : Int) (t : Time) :
    (s.readAccepted r v t).CalFresh := by
  have point (isHead : Bool) : ((((s.testPoint isHead t).calPoint isHead t).evaluate t).applyDeferred t).CalFresh := by
    refine State.applyDeferred_fresh ?_ t
    rw [State.calPoint_of_ne (by simpa using h)]
    simpa using h
  cases r
  case head => exact point true
  case boom => exact point false
  case tilt => exact State.applyDeferred_fresh (s := s.tipTest v t) (by simpa using h) t
  case rod => exact .of_ne (s := s) h
  case pitch => exact .of_ne (s := s) h

/-- A hand-off writes no curve while the calibration has not taken a sample. -/
theorem State.handOffRef_curves {s : State} (h : s.CalFresh) (bytes : List Byte) (t : Time) (ref : Option (Fin 16)) :
    (s.handOffRef bytes t ref).curves = s.curves := by
  cases ref with
  | none => rfl
  | some i =>
    unfold State.handOffRef State.handOff
    dsimp only
    split
    · rfl
    · rfl
    · rfl
    · unfold State.takeValue
      rw [State.readAccepted_curves (h.congr (by simp) (by simp))]
      simp [State.curves]

/-- The first hand-off outside CALIBRATE leaves a calibration that has not taken a sample. -/
theorem State.handOffRef_fresh {s : State} (h : s.mgt.mode ≠ .calibrate) (bytes : List Byte) (t : Time)
    (ref : Option (Fin 16)) : (s.handOffRef bytes t ref).CalFresh := by
  cases ref with
  | none => exact .of_ne h
  | some i =>
    unfold State.handOffRef State.handOff
    dsimp only
    split
    · exact .of_ne h
    · exact .of_ne (by simpa using h)
    · exact .of_ne (by simpa using h)
    · exact State.readAccepted_fresh (by simpa using h) _ _ _

theorem State.extractFrame_curves {s : State} (h : s.mgt.mode ≠ .calibrate) (e : FatEntry) (f : Frame) (t : Time) :
    (s.extractFrame e f t).curves = s.curves := by
  unfold State.extractFrame
  split
  · rw [State.handOffRef_curves (State.handOffRef_fresh h _ _ _), State.handOffRef_curves (.of_ne h)]
  · rfl

/-- Outside CALIBRATE an arrival that carries no request writes no curve. -/
theorem State.classify_curves {s : State} (h : s.mgt.mode ≠ .calibrate) (a : Arrival) :
    (s.classify a).curves = s.curves := by
  have forward (i : Fin 48) (e : FatEntry) (f : Frame) (q : State) : (q.forwardFrame i e f).curves = q.curves := by
    simp [State.curves]
  have capture (copies : Bool) (f : Frame) (q : State) : (q.captureFrame copies f).curves = q.curves := by
    simp [State.curves]
  have policy (p : Policy) (f : Frame) : (s.underPolicy p f).curves = s.curves := by simp [State.curves]
  have entry (e : FatEntry) (f : Frame) (t : Time) : (s.extractAndCapture e f t).curves = s.curves := by
    unfold State.extractAndCapture
    dsimp only
    split
    · split
      · rw [State.extractFrame_curves (by simpa using h), capture]
        rfl
      · rw [capture, State.extractFrame_curves (by simpa using h)]
        rfl
    · rw [capture, State.extractFrame_curves h]
  unfold State.classify
  split
  · rfl
  · split
    · rfl
    · exact policy _ _
    · split
      · unfold State.entryActions
        rw [forward, entry]
      · exact policy _ _

theorem State.offerBoom_curves {s : State} (h : s.mgt.mode ≠ .calibrate) (t : Time) :
    (s.offerBoom t).curves = s.curves := by
  unfold State.offerBoom
  split
  · split
    · unfold State.takeValue
      rw [State.readAccepted_curves (.of_ne (by simpa using h))]
      simp [State.curves]
    · rfl
  · rfl

/-- Settles O15. -/
theorem tablesAndNodeChangeByCommand : Obligations.TablesAndNodeChangeByCommand := by
  unfold Obligations.TablesAndNodeChangeByCommand
  intro c s t he hc hr
  have htables : t.tables = s.tables :=
    (keptTables s.tables).exec hc (fun h => by simp [hr] at h) he rfl
  have hcurves : s.mgt.mode ≠ .calibrate → t.curves = s.curves := by
    intro hm
    by_cases harr : ∃ a, c = .machineArrival a
    · obtain ⟨a, rfl⟩ := harr
      cases he
      unfold State.takeArrival
      split
      · simp_all [carriesRequest]
      · exact State.classify_curves hm a
      · exact State.classify_curves hm a
    · by_cases hoff : c = .encoderOfferTick
      · subst hoff
        have he := Host.Outcome.next.inj he
        subst he
        split
        · rw [State.offerBoom_curves (by simpa using hm)]
          rfl
        · rfl
      · exact (keptCurves s.curves).exec ⟨hc, fun a h => harr ⟨a, h⟩, hoff⟩ (fun h => by simp [hr] at h) he rfl
  simp only [State.tables, Tables.mk.injEq] at htables
  obtain ⟨hfat, hzones, hstd, hsxt, hrec, hbands, hmat, hlines, hnode, hmask⟩ := htables
  have hline (i : Fin 4) := congrFun hlines i
  simp only [Line.setting, Prod.mk.injEq] at hline
  exact ⟨hfat, hzones, hstd, hsxt, hrec, hbands, hmat, hline, hnode, hmask, fun hm => Prod.mk.inj (hcurves hm)⟩

end Sys2Proof.Machine
end

section
/-! Requests: their bytes, their frames, their answers, and the discard at a full response queue. -/
namespace Sys2Proof.Machine

/-! ### The bytes of a request -/

theorem word_of_bytes (v : BitVec 16) : (v >>> 8).setWidth 8 ++ v.setWidth 8 = v := by
  ext i hi
  simp only [BitVec.getElem_append, BitVec.getElem_setWidth, BitVec.getLsbD_ushiftRight]
  split <;> simp <;> rw [BitVec.getLsbD_eq_getElem] <;> congr 1 <;> omega

theorem triple_of_bytes (v : BitVec 24) : (v >>> 16).setWidth 8 ++ (v >>> 8).setWidth 8 ++ v.setWidth 8 = v := by
  ext i hi
  simp only [BitVec.getElem_append, BitVec.getElem_setWidth, BitVec.getLsbD_ushiftRight]
  split
  · exact BitVec.getLsbD_eq_getElem hi
  · split <;> rw [BitVec.getLsbD_eq_getElem] <;> congr 1 <;> omega

/-- A full request whose code names no command is an UNKNOWN_COMMAND. -/
theorem decodeFull_of_unknown {b : List Byte} (h : isCommandCode (byteAt b 0) = false) (p : Port) :
    decodeFull p b = some (.unknownCommand p (byteAt b 0) (byteAt b 1)) := by
  simp only [isCommandCode, commandCodes, List.contains_eq_mem, List.mem_cons, List.not_mem_nil, or_false,
    decide_eq_false_iff_not, not_or] at h
  unfold decodeFull
  split <;> simp_all [← BitVec.toNat_inj]

/-- Settles O17. -/
theorem requestBytesDecode : Obligations.RequestBytesDecode := by
  unfold Obligations.RequestBytesDecode
  intro i p bytes hw he
  cases i <;> simp only [encodeRequest, Option.some.injEq, Prod.mk.injEq, reduceCtorEq] at he
  all_goals obtain ⟨rfl, rfl⟩ := he
  case setTarget q tag target tolerance =>
    calc decodeRequest q _
      _ = some (.setTarget q tag ((target >>> 16).setWidth 8 ++ (target >>> 8).setWidth 8 ++ target.setWidth 8)
            ((tolerance >>> 8).setWidth 8 ++ tolerance.setWidth 8)) := rfl
      _ = _ := by rw [triple_of_bytes, word_of_bytes]
  case setCapture q tag v =>
    exact congrArg (fun x => some (Instr.setCapture q tag x)) (word_of_bytes v)
  case setNotices q tag v =>
    exact congrArg (fun x => some (Instr.setNotices q tag x)) (word_of_bytes v)
  case clearAlerts q tag v =>
    exact congrArg (fun x => some (Instr.clearAlerts q tag x)) (word_of_bytes v)
  case unknownCommand q code tag =>
    have hcode : isCommandCode code = false := by simpa [Instr.wellFormed] using hw
    exact decodeFull_of_unknown (b := requestBytes code tag []) hcode q
  case shortRequest q =>
    have hlen : _ < 8 := of_decide_eq_true hw
    simp [decodeRequest, hlen]
  case loadData q tag seq payload =>
    obtain ⟨⟨l⟩, hl⟩ := payload
    match l, hl with
    | [_, _, _, _, _], _ => rfl
  all_goals rfl

/-! ### A request frame and its row -/

/-- The request frame of a node, with its data bytes. -/
theorem State.requestOf_request (s : State) (bytes : List Byte) :
    s.requestOf (dataFrame (0x0C7E0000#29 + s.mgt.node.setWidth 29) bytes) = some bytes :=
  if_pos rfl

theorem State.requestOf_eq_some {s : State} {f : Frame} {bytes : List Byte} (h : s.requestOf f = some bytes) :
    f = dataFrame (0x0C7E0000#29 + s.mgt.node.setWidth 29) bytes := by
  obtain ⟨id, body⟩ := f
  cases id with
  | standard id => cases body <;> cases h
  | extended id =>
    cases body with
    | remote n => cases h
    | data bs =>
      simp only [State.requestOf] at h
      split at h <;> cases h
      rename_i hid
      rw [hid]
      rfl

theorem exec_cabArrival_request (bytes : List Byte) (s : State) :
    exec (.cabArrival (dataFrame (0x0C7E0000#29 + s.mgt.node.setWidth 29) bytes)) s =
      .next (s.takeRequest .cab s.time (State.carryOutBytes .cab bytes)) := by
  have h := s.requestOf_request bytes
  simp only [exec, execCabArrival, h]

theorem exec_machineArrival_request {s : State} (hs : s.din.service = true) (bytes : List Byte) (t : Time) :
    exec (.machineArrival ⟨dataFrame (0x0C7E0000#29 + s.mgt.node.setWidth 29) bytes, t⟩) s =
      .next (s.takeRequest .machine t (State.carryOutBytes .machine bytes)) := by
  have h := s.requestOf_request bytes
  simp only [exec, execMachineArrival, State.takeArrival, h, hs]

/-- Bytes that decode to a row do what the row does. -/
theorem State.carryOutBytes_of_decode {p : Port} {bytes : List Byte} {i : Instr} (h : decodeRequest p bytes = some i) :
    State.carryOutBytes p bytes = State.carryOut i := by
  funext s
  simp only [State.carryOutBytes, h]

/-- A CHANNEL request with an unknown action names no row. -/
theorem State.carryOutBytes_of_action {action : Byte} (h : 6 ≤ action.toNat) (p : Port)
    (tag channel b4 b5 b6 b7 : Byte) (s : State) :
    s.carryOutBytes p [0x30, tag, channel, action, b4, b5, b6, b7] = s.respond p 0x30 tag .badArg [] := by
  have hnone : decodeRequest p [0x30, tag, channel, action, b4, b5, b6, b7] = none := by
    change decodeChannel p tag channel action.toNat = none
    unfold decodeChannel
    split <;> first | omega | rfl
  simp only [State.carryOutBytes, hnone]
  rfl

/-- Settles O18. -/
theorem requestFrameActsAsItsRow : Obligations.RequestFrameActsAsItsRow := by
  unfold Obligations.RequestFrameActsAsItsRow
  refine ⟨fun i bytes s hw he => ⟨_, exec_cabArrival_request bytes s, ?_⟩,
    fun i bytes s hw he hs => ⟨_, exec_machineArrival_request hs bytes s.time, ?_⟩,
    fun tag channel action b4 b5 b6 b7 t s ha => ⟨fun hr => ?_, fun hr hs => ?_⟩, fun f s hf => ?_⟩
  · rw [exec_of_request he, State.carryOutBytes_of_decode (requestBytesDecode i _ bytes hw he)]
  · rw [exec_of_request he, State.carryOutBytes_of_decode (requestBytesDecode i _ bytes hw he)]
  · rw [exec_cabArrival_request, State.takeRequest_of_room hr, State.carryOutBytes_of_action ha]
  · rw [exec_machineArrival_request hs, State.takeRequest_of_room hr, State.carryOutBytes_of_action ha]
  · have hnone : s.requestOf f = none := by
      cases h : s.requestOf f with
      | none => rfl
      | some bytes => exact absurd (State.requestOf_eq_some h) (hf bytes)
    simp only [exec, execCabArrival, hnone]

/-! ### A full response queue -/

theorem State.afterOffer_of_blocked {s : State} (h : s.cport.e.blocked = true) (f : Frame) : s.afterOffer f = s :=
  if_pos h

theorem State.afterOffer_of_room {s : State} (h : s.cport.e.blocked = false) (hq : s.cport.e.queue.length < 16)
    (f : Frame) : s.afterOffer f =
      { s with cport := { s.cport with e := { s.cport.e with queue := s.cport.e.queue ++ [f] } } } := by
  rw [State.afterOffer, if_neg (by simp [h]), if_pos hq]

theorem State.afterOffer_of_full {s : State} (h : s.cport.e.blocked = false) (hq : 16 ≤ s.cport.e.queue.length)
    (f : Frame) : s.afterOffer f = { s with mgt := { s.mgt with alerts := s.mgt.alerts ||| 0x0020 } } := by
  rw [State.afterOffer, if_neg (by simp [h]), if_neg (Nat.not_lt.2 hq)]


/-- Settles O19: the discard is one raise of MGMT_OVERRUN. -/
theorem fullResponseQueueDiscardsRequest : Obligations.FullResponseQueueDiscardsRequest := by
  unfold Obligations.FullResponseQueueDiscardsRequest
  intro overrun
  have discard (p : Port) (t : Time) (s : State) : s.raiseAlert .mgmtOverrun (portCode p) t = overrun p t s := by
    rw [State.raiseAlert_eq]
    have hbits : s.mgt.alerts ||| 0x0400#16 ||| 0x0020#16 = s.mgt.alerts ||| 0x0420#16 := by rw [BitVec.or_assoc]; rfl
    have hbytes : BitVec.ofNat 8 (10 + 16 * 15) :: leBytes 2 (portCode p) ++ leBytes 4 t.toNat ++ [0] =
        [0xFA, BitVec.ofNat 8 (portCode p), 0] ++ leBytes 4 t.toNat ++ [0] := by cases p <;> rfl
    unfold State.afterAlert
    change (if s.mgt.mask.getLsbD 10 = true then _ else _) = ite _ _ _
    by_cases hm : s.mgt.mask.getLsbD 10 = true
    · rw [if_pos hm]
      by_cases hb : s.cport.e.blocked = true
      · rw [if_pos (.inr hb)]
        exact State.afterOffer_of_blocked (by exact hb) _
      · rw [if_neg (by simp [hm, hb])]
        by_cases hq : s.cport.e.queue.length < 16
        · rw [if_pos hq, ← hbytes]
          exact State.afterOffer_of_room (by exact Bool.eq_false_of_not_eq_true hb) (by exact hq) _
        · have hfull : 16 ≤ s.cport.e.queue.length := Nat.le_of_not_lt hq
          rw [if_neg hq]
          refine (State.afterOffer_of_full (by exact Bool.eq_false_of_not_eq_true hb) (by exact hfull) _).trans ?_
          exact congrArg (fun x => { s with mgt := { s.mgt with alerts := x } }) hbits
    · rw [if_neg hm, if_pos (.inl (by simpa using hm))]
      rfl
  refine ⟨fun i p bytes s he hr => ?_, fun bytes t s => ⟨fun hr => ?_, fun hr hs => ?_⟩⟩
  · rw [exec_of_request he, State.takeRequest_of_full hr, discard]
  · rw [exec_cabArrival_request, State.takeRequest_of_full hr, discard]
  · rw [exec_machineArrival_request hs, State.takeRequest_of_full hr, discard]

/-! ### Answers -/

/-- Settles O20. -/
theorem requestsAreAnswered : Obligations.RequestsAreAnswered := by
  unfold Obligations.RequestsAreAnswered
  refine ⟨fun code tag status r0 r1 r2 r3 r4 s => ⟨rfl, ?_⟩, fun p code tag bytes s hr => ⟨?_, ?_⟩⟩
  · cases h : s.cport.m.blocked
    · rw [State.respond_cab_open h, if_neg (by simp)]
      rfl
    · rw [State.respond_cab_blocked h, if_pos rfl]
  · rw [exec_of_request rfl, State.takeRequest_of_room hr]
    rfl
  · rw [exec_of_request rfl, State.takeRequest_of_room hr]
    rfl

end Sys2Proof.Machine
end

section
/-! The settings commands and RESTART. -/
namespace Sys2Proof.Machine

/-! ### The settings commands -/

/-- A request with room is carried out. -/
theorem exec_request_of_room {i : Instr} {p : Port} {bytes : List Byte} (h : encodeRequest i = some (p, bytes))
    {s : State} (hr : s.hasRoom p = true) : exec i s = .next (s.carryOut i) := by
  rw [exec_of_request h, State.takeRequest_of_room hr]

/-- Settles O52. -/
theorem settingsAndTareTakeEffect : Obligations.SettingsAndTareTakeEffect := by
  unfold Obligations.SettingsAndTareTakeEffect
  refine ⟨fun p tag s hr => ⟨fun hm => ?_, fun hm => ?_⟩,
    fun p tag node v s hr => ⟨?_, ?_, fun hv => ?_, fun hv => ?_, _, ?_, rfl⟩⟩
  all_goals rw [exec_request_of_room rfl hr]
  · simp only [State.carryOut, State.cmdTare, if_pos hm]
    rfl
  · simp only [State.carryOut, State.cmdTare, if_neg hm]
  · rfl
  · rfl
  · simp only [State.carryOut, State.cmdClearAlerts, if_pos hv]
  · simp only [State.carryOut, State.cmdClearAlerts, if_neg hv]
    rfl
  · rfl

/-! ### The window that a change of mode ends -/

/-- CYT discards a result whose reason is PARKED or MODE (R113). -/
theorem Cyt.take_of_discarded {r : WindowResult} (h : r.reason = some .parked ∨ r.reason = some .mode) (c : Cyt) :
    c.take r = c := by
  have hu : c.uses r = false := by
    obtain h | h := h <;> simp [Cyt.uses, h]
  simp [Cyt.take, hu]

/-- An ending with a reason of its own gives a result that is NOT_WEIGHED for that reason (R74). -/
theorem Wen.result_of_reason {e : Ending} {reason : Reason} (h : e.reason = some reason) (x : Wen) (w : Window)
    (t : Time) :
    x.result w e t = w.notWeighed e reason (if x.tareArmed then .tarePass else .bucket) t := by
  simp only [Wen.result, h]

/-- WEN after its window has ended by a change of mode. -/
def Wen.modeEnded (x : Wen) (t : Time) : Wen :=
  match x.window with
  | none => x
  | some w => { x with window := none, lastResult := some (x.result w .mode t), tareArmed := false }

/-- A MODE ending raises nothing and reaches neither the tare nor CYT (R82, R113). -/
theorem State.endWindow_mode (t : Time) (s : State) : s.endWindow .mode t = s.modWen fun x => x.modeEnded t := by
  cases hw : s.wen.window with
  | none =>
    rw [State.endWindow_of_none hw]
    simp [State.modWen, Wen.modeEnded, hw]
  | some w =>
    have hr := Wen.result_of_reason (e := .mode) rfl s.wen w t
    have hkind := s.wen.result_kind w .mode t
    generalize hres : s.wen.result w .mode t = r at hr hkind
    have hreason : r.reason = some .mode := by rw [hr]; rfl
    have hraise : s.raiseUnsteady r = s := if_neg (by rw [hr]; exact fun h => nomatch h)
    have hpass (q : State) : q.applyTarePass r = q.modWen fun x => { x with tareArmed := false } := by
      have hnew : r.newTare = none := by rw [hr]; rfl
      simp [State.applyTarePass, hnew, hreason]
    have htake := Cyt.take_of_discarded (.inr hreason) s.cyt
    unfold State.endWindow
    simp only [hw, hres, hraise, hpass, hkind, State.modWen, State.modCyt, Wen.modeEnded]
    cases ha : s.wen.tareArmed <;> simp [htake]

/-! ### RESTART -/

/-- WEN after the work in flight has ended (R207). -/
def Wen.workEnded (x : Wen) (t : Time) : Wen := { x.modeEnded t with calibration := none }

theorem State.endWork_eq (s : State) :
    s.endWork = { s with mgt := { s.mgt with deferred := none }, wen := s.wen.workEnded s.time } := by
  simp only [State.endWork, State.endWindow_mode]
  rfl

@[simp] theorem Wen.modeEnded_frame (x : Wen) (t : Time) :
    (x.modeEnded t).record = x.record ∧ (x.modeEnded t).curveE = x.curveE ∧ (x.modeEnded t).curveL = x.curveL ∧
    (x.modeEnded t).bands = x.bands ∧ (x.modeEnded t).tare = x.tare := by
  unfold Wen.modeEnded
  split <;> simp

/-- The gauge timer of a warm restart. -/
def State.warmGauge (s : State) : Option Time :=
  match s.wen.record with
  | none => none
  | some r => if r.gaugePeriod = 0 ∨ s.din.power = .parked then none else some (Time.plus s.time r.gaugePeriod)

theorem State.warmValues_cport (s : State) :
    s.warmValues.cport = { Cport.cold with gauge := s.warmGauge } := by
  have hgauge : (if s.gaugePeriod ≠ 0 ∧ s.din.power = .running then some (Time.plus s.time s.gaugePeriod) else none) =
      s.warmGauge := by
    unfold State.gaugePeriod State.warmGauge
    cases s.wen.record with
    | none => simp
    | some r => cases s.din.power <;> by_cases h : r.gaugePeriod = 0 <;> simp [h]
  rw [← hgauge]
  rfl

/-- The state a warm restart leaves: the blocks at their warm values, with the NOTICE of a change of mode and the
response in their queues. -/
theorem State.cmdRestart_eq (p : Port) (tag : Byte) (s : State) :
    let answer := responseFrame s.mgt.node 0x35 tag .ok []
    s.cmdRestart p tag = { s.endWork.warmValues with
      mport := { Mport.cold with queue := if p = .machine then [answer] else [] }
      cport := { Cport.cold with
        m := { ChannelState.cold with queue := if p = .cab then [answer] else [] }
        e := { ChannelState.cold with queue := if s.mgt.mode = .config then []
          else [s.displayFrame 6 [(2, 0), (2, 0), (2, s.mgt.mode.code), (2, 3), (1, 0), (3, 0), (12, 0),
            (32, s.time.toNat)]] }
        gauge := s.warmGauge } } := by
  intro answer
  have hgauge : s.endWork.warmGauge = s.warmGauge := by simp [State.warmGauge]
  have hcport := s.endWork.warmValues_cport
  have hmport : s.endWork.warmValues.mport = Mport.cold := by simp
  have hnode : s.endWork.warmValues.mgt.node = s.mgt.node := by simp
  rw [hgauge] at hcport
  unfold State.cmdRestart
  dsimp only
  generalize s.endWork.warmValues = w at hcport hmport hnode
  have hrespond (q : State) (hq : q.mport = Mport.cold) (hm : q.cport.m = ChannelState.cold)
      (hn : q.mgt.node = s.mgt.node) : q.respond p 0x35 tag .ok [] = { q with
        mport := { Mport.cold with queue := if p = .machine then [answer] else [] }
        cport := { q.cport with m := { ChannelState.cold with queue := if p = .cab then [answer] else [] } } } := by
    have ha : responseFrame q.mgt.node 0x35 tag .ok [] = answer := by rw [hn]
    obtain ⟨_, _, mport, _, _, _, _, _, _, ⟨_, _, _, m, _, _, _, _, _, _, _, _, _, _⟩, _, _, _⟩ := q
    dsimp only at hq hm ha
    subst hq hm
    cases p
    · simp only [State.respond, State.offerResponse]
      rw [ha]
      rfl
    · simp only [State.respond, State.offerResponse]
      rw [ha]
      rfl
  by_cases hmode : s.mgt.mode = .config
  · simp only [if_pos hmode]
    rw [hrespond w hmport (by rw [hcport]; rfl) hnode, hcport]
    rfl
  · simp only [if_neg hmode]
    have hnotice : w.noticeMode .config s.mgt.mode none .restart s.time = { w with
        cport := { w.cport with e := { ChannelState.cold with
          queue := [s.displayFrame 6 [(2, 0), (2, 0), (2, s.mgt.mode.code), (2, 3), (1, 0), (3, 0), (12, 0),
            (32, s.time.toNat)]] } } } := by
      unfold State.noticeMode
      rw [State.offerE_eq, State.afterOffer_of_room (by rw [hcport]; rfl)
          (by rw [hcport]; simp [Cport.cold, ChannelState.cold])]
      rw [hcport]
      simp [Cport.cold, ChannelState.cold, State.displayFrame, hnode, Mode.code, NoticeCause.code]
    rw [hnotice, hrespond _ (by exact hmport) (by exact congrArg Cport.m hcport) (by exact hnode), hcport]

/-- Settles O6. -/
theorem restartKeepsLoadsAndTables : Obligations.RestartKeepsLoadsAndTables := by
  unfold Obligations.RestartKeepsLoadsAndTables
  intro p tag s hr
  refine ⟨_, exec_request_of_room rfl hr, ?_⟩
  simp only [State.carryOut, State.cmdRestart_eq]
  have hslot (r : Role) : s.endWork.warmValues.sig.slot r =
      slotOfSource s.sig.sxt s.din.power s.time (sourceOf s.sig.sxt s.wen.record r) := by
    have hwarm : s.endWork.warmValues.sig.slot r = (s.endWork.settleSlots s.endWork.time).sig.slot r := rfl
    rw [hwarm, State.settleSlots_slot]
    simp only [State.endWork_frame, slotOfSource, freshSlot, Slot.mk.injEq, and_true, true_and]
    cases s.din.power <;> cases sourceOf s.sig.sxt s.wen.record r <;> rfl
  have hmgt : s.endWork.warmValues.mgt = { s.mgt with mode := .config, deferred := none, assembly := none } := by
    simp [State.endWork_eq, Mgt.warm]
  have hwen : s.endWork.warmValues.wen = (s.wen.workEnded s.time).warm := by simp [State.endWork_eq]
  have hcyt : s.endWork.warmValues.cyt = s.cyt.toIdle := by simp [State.endWork_eq]
  have hfcl : s.endWork.warmValues.fcl = s.fcl.clearHolding := by simp
  have hheld (i : Fin 48) :
      s.endWork.warmValues.fcl.held[i] = none ∧ s.endWork.warmValues.fcl.timers[i] = none := by
    rw [hfcl]
    simp [Fcl.clearHolding]
  have hkeep : s.endWork.warmValues.time = s.time ∧ s.endWork.warmValues.din = s.din ∧
      s.endWork.warmValues.lac = s.lac ∧ s.endWork.warmValues.sig.sxt = s.sig.sxt := by simp
  obtain ⟨htime, hdin, hlac, hsxt⟩ := hkeep
  obtain ⟨hrecord, hcurveE, hcurveL, hbands, htare⟩ := s.wen.modeEnded_frame s.time
  refine ⟨hmgt, htime, hdin, hlac, by simp, by simp, by simp, hheld, hsxt, rfl, rfl, fun r => ?_, ?_, ?_, ?_, ?_, ?_,
      rfl, rfl, rfl, rfl, fun hn => ?_, fun w hw => ?_, hcyt,
    rfl, rfl, rfl, rfl, rfl, rfl, ?_, fun hp => ?_, fun hp => ?_, hslot, rfl, rfl, rfl⟩
  · rw [hslot]
    exact ⟨rfl, rfl, rfl⟩
  · exact (congrArg Wen.record hwen).trans hrecord
  · exact (congrArg Wen.curveE hwen).trans hcurveE
  · exact (congrArg Wen.curveL hwen).trans hcurveL
  · exact (congrArg Wen.bands hwen).trans hbands
  · exact (congrArg Wen.tare hwen).trans htare
  · refine (congrArg Wen.lastResult hwen).trans ?_
    simp [Wen.workEnded, Wen.modeEnded, Wen.warm, hn]
  · refine ⟨s.wen.result w .mode s.time, (congrArg Wen.lastResult hwen).trans ?_, ?_⟩
    · simp [Wen.workEnded, Wen.modeEnded, Wen.warm, hw]
    · rw [Wen.result_of_reason (e := .mode) rfl]
      exact ⟨rfl, rfl⟩
  · split <;> rfl
  · subst hp
    exact ⟨rfl, rfl⟩
  · subst hp
    exact ⟨rfl, rfl⟩

end Sys2Proof.Machine
end

section
/-! Machine frames: matching, policies, forwarding and copies. -/
namespace Sys2Proof.Machine

/-! ### Matching -/

theorem FatEntry.admits_iff (e : FatEntry) (id : BitVec 29) :
    e.admits id = true ↔ e.enabled = true ∧ id &&& e.mask = e.ident &&& e.mask := by
  simp [FatEntry.admits]

/-- The first index of `Fin n` that passes a test. -/
theorem find_finRange_eq_some {n : Nat} {p : Fin n → Bool} {i : Fin n} :
    (List.finRange n).find? p = some i ↔ p i = true ∧ ∀ j, j < i → ¬ p j = true := by
  rw [List.find?_eq_some_iff_getElem]
  constructor
  · rintro ⟨hp, k, hk, rfl, hlt⟩
    refine ⟨hp, fun j hj => ?_⟩
    have := hlt j (by simpa [Fin.lt_def] using hj)
    simpa using this
  · rintro ⟨hp, hlt⟩
    refine ⟨hp, i, by simp, by simp, fun j hj => ?_⟩
    have hjn : j < n := lt_trans hj i.isLt
    simpa using hlt ⟨j, hjn⟩ hj

theorem Fcl.matchEntry_eq_some (c : Fcl) (id : BitVec 29) (i : Fin 48) :
    c.matchEntry id = some i ↔ (c.fat[i].enabled = true ∧ id &&& c.fat[i].mask = c.fat[i].ident &&& c.fat[i].mask) ∧
      ∀ j : Fin 48, j < i →
        ¬ (c.fat[j].enabled = true ∧ id &&& c.fat[j].mask = c.fat[j].ident &&& c.fat[j].mask) := by
  unfold Fcl.matchEntry
  rw [find_finRange_eq_some]
  simp only [FatEntry.admits_iff]

theorem Fcl.matchEntry_eq_none (c : Fcl) (id : BitVec 29) :
    c.matchEntry id = none ↔ ∀ i : Fin 48,
      ¬ (c.fat[i].enabled = true ∧ id &&& c.fat[i].mask = c.fat[i].ident &&& c.fat[i].mask) := by
  unfold Fcl.matchEntry
  simp only [List.find?_eq_none, List.mem_finRange, true_implies, FatEntry.admits_iff]

/-! ### Channel P -/

/-- P's queue as an offered frame finds it: a full one has lost its oldest frame that the transmitter does not carry. -/
def Cport.keptP (p : Cport) : List Frame := if p.p.queue.length < 32 then p.p.queue else p.pushOutP

/-- An offer to P while RUNNING: discarded by a BLOCKED P, else the newest. -/
theorem State.offerP_of_running {s : State} (h : s.din.power = .running) (f : Frame) :
    s.offerP f = if s.cport.p.blocked then s
      else { s with cport := { s.cport with p := { s.cport.p with queue := s.cport.keptP ++ [f] } } } := by
  cases hb : s.cport.p.blocked
  · by_cases hq : s.cport.p.queue.length < 32
    · simp [State.offerP, h, hb, hq, Config.capP, Cport.keptP, State.modCport, ChannelState.push]
    · simp [State.offerP, h, hb, hq, Config.capP, Cport.keptP, State.modCport]
  · simp [State.offerP, hb]

theorem State.underPolicy_eq (p : Policy) (f : Frame) (s : State) :
    s.underPolicy p f = if p = .forward then s.offerP f else s := by
  cases p <;> rfl

/-! ### Arrivals -/

/-- An arrival that is no request to take goes to FCL. -/
theorem exec_machineArrival_of_inactive {s : State} (h : s.din.service = false) (a : Arrival) :
    exec (.machineArrival a) s = .next (s.classify a) := by
  simp only [exec, execMachineArrival, State.takeArrival, h]

theorem zoneOf_eq {id : BitVec 29} {z : Fin 8} (h : z.val = id.toNat / 67108864) : zoneOf id = z := by
  have hid := id.isLt
  apply Fin.ext
  rw [h]
  simp only [zoneOf, BitVec.extractLsb'_toNat, Nat.shiftRight_eq_div_pow]
  omega

/-- Settles O21. -/
theorem frameFollowsItsEntryOrPolicy : Obligations.FrameFollowsItsEntryOrPolicy := by
  unfold Obligations.FrameFollowsItsEntryOrPolicy
  refine ⟨fun c id => ⟨c.matchEntry_eq_some id, c.matchEntry_eq_none id⟩, fun a s hs => ⟨fun hp => ?_, fun n hb => ?_,
    fun bytes hb hp => ?_⟩⟩
  · rw [exec_machineArrival_of_inactive hs, State.classify, if_pos hp]
  · rw [exec_machineArrival_of_inactive hs]
    simp [State.classify, hb]
  · have hpass := State.offerP_of_running hp a.frame
    refine ⟨fun id hid => ?_, fun id z hid hm hz => ?_, hpass⟩
    · rw [exec_machineArrival_of_inactive hs]
      simp only [State.classify, hp, hb, hid, State.underPolicy_eq, hpass, reduceCtorEq, if_false]
      rfl
    · rw [exec_machineArrival_of_inactive hs]
      simp only [State.classify, hp, hb, hid, hm, zoneOf_eq hz, State.underPolicy_eq, hpass, reduceCtorEq, if_false]
      rfl

/-! ### Holding slots and interval timers -/

@[simp] theorem Fcl.setHolding_self (c : Fcl) (i : Fin 48) (f : Option Frame) (x : Option Time) :
    (c.setHolding i f x).held[i] = f ∧ (c.setHolding i f x).timers[i] = x := by
  simp [Fcl.setHolding]

theorem Fcl.setHolding_of_ne (c : Fcl) {i j : Fin 48} (h : j ≠ i) (f : Option Frame) (x : Option Time) :
    (c.setHolding i f x).held[j] = c.held[j] ∧ (c.setHolding i f x).timers[j] = c.timers[j] := by
  have hv : (i : Nat) ≠ j := fun he => h (Fin.ext he.symm)
  simp [Fcl.setHolding, hv]

/-- A matched data frame, while RUNNING, is its entry's. -/
theorem State.classify_of_match {a : Arrival} {id : BitVec 29} {bytes : List Byte} {i : Fin 48} {s : State}
    (hp : s.din.power = .running) (hf : a.frame = dataFrame id bytes) (hm : s.fcl.matchEntry id = some i) :
    s.classify a = s.entryActions i a.frame a.time := by
  simp [State.classify, hp, hf, dataFrame, hm]

/-- An entry that neither extracts nor captures only forwards. -/
theorem State.entryActions_of_forward {i : Fin 48} {s : State} (he : s.fcl.fat[i].extract = false)
    (hc : s.fcl.fat[i].capture = false) (f : Frame) (t : Time) :
    s.entryActions i f t = s.forwardFrame i s.fcl.fat[i] f := by
  have hact : s.extractAndCapture s.fcl.fat[i] f t = s := by
    simp only [State.extractAndCapture, State.extractFrame, State.captureFrame, State.captures, he, hc, Bool.false_and,
      Bool.false_eq_true, if_false]
  simp only [State.entryActions, hact]

theorem State.offerP_queue {s : State} (hp : s.din.power = .running) (hb : s.cport.p.blocked = false)
    (hq : s.cport.p.queue.length < 32) (f : Frame) : (s.offerP f).cport.p.queue = s.cport.p.queue ++ [f] := by
  rw [State.offerP_of_running hp]
  simp [hb, Cport.keptP, hq]

/-- A timer that is reached is due. -/
theorem State.due_of_reached {s : State} {x : Time} (h : s.reached x = true) : s.due (some x) = some x := by
  simp [State.due, h]

/-- Settles O22. -/
theorem forwardingFollowsTheTimer : Obligations.ForwardingFollowsTheTimer := by
  unfold Obligations.ForwardingFollowsTheTimer
  refine ⟨fun a id bytes i s hs hp hf hm hfwd hext hcap => ?_, fun i x s hx hr => ?_⟩
  · refine ⟨s.forwardFrame i s.fcl.fat[i] a.frame, ?_, ?_⟩
    · rw [exec_machineArrival_of_inactive hs, State.classify_of_match hp hf hm, State.entryActions_of_forward hext hcap]
    · unfold State.forwardFrame
      rw [if_neg (by rw [hfwd]; simp)]
      by_cases hi : s.fcl.fat[i].interval = 0
      · rw [if_pos hi]
        simp +contextual [-Fin.getElem_fin, hi, State.offerP_queue hp]
      · rw [if_neg hi]
        cases ht : s.fcl.timers[i] with
        | none =>
          simp +contextual [-Fin.getElem_fin, hi, State.offerP_queue hp, Fcl.setHolding_of_ne]
        | some x =>
          simp +contextual [-Fin.getElem_fin, hi, Fcl.setHolding_of_ne]
  · refine ⟨s.intervalExpiry i x, ?_, ?_⟩
    · simp only [exec, execIntervalTimerExpiry, hx, State.due_of_reached hr]
    · unfold State.intervalExpiry
      cases hh : s.fcl.held[i] with
      | none => simp +contextual [-Fin.getElem_fin, Fcl.setHolding_of_ne]
      | some f => simp +contextual [-Fin.getElem_fin, Fcl.setHolding_of_ne, State.offerP_queue]

/-! ### Hand-offs -/

/-- A data frame that is no request to take goes to FCL. -/
theorem exec_machineArrival_of_data {s : State} {a : Arrival} {id : BitVec 29} {bytes : List Byte}
    (hf : a.frame = dataFrame id bytes) (h : s.din.service = false ∨ id ≠ 0x0C7E0000#29 + s.mgt.node.setWidth 29) :
    exec (.machineArrival a) s = .next (s.classify a) := by
  obtain hs | hid := h
  · exact exec_machineArrival_of_inactive hs a
  · have hnone : s.requestOf a.frame = none := by
      cases hr : s.requestOf a.frame with
      | none => rfl
      | some bs =>
        have he := (State.requestOf_eq_some hr).symm.trans hf
        exact absurd (CanId.extended.inj (congrArg Frame.id he)).symm hid
    simp only [exec, execMachineArrival, State.takeArrival, hnone]
    cases s.din.service <;> rfl

/-- A frame that is not copied is extracted and then forwarded. -/
theorem State.extractAndCapture_of_not {e : FatEntry} {s : State} (h : s.captures e = false) (f : Frame) (t : Time) :
    s.extractAndCapture e f t = s.extractFrame e f t := by
  simp only [State.extractAndCapture, h, Bool.and_false, Bool.false_and, Bool.false_eq_true, if_false,
    State.captureFrame]

theorem clampRole_eq (r : Role) (v : Int) : clampRole r v = max (roleMin r) (min (roleMax r) v) := by
  cases r <;> simp only [clampRole, clamp, roleMin, roleMax] <;> omega

theorem inertEntry_iff (rec : Option MachineRecord) (e : SxtEntry) :
    inertEntry rec e = true ↔ e.role = .boom ∧ ∃ r, rec = some r ∧ r.boomSource = .encoder := by
  cases rec <;> simp [inertEntry, encoderSelected]

theorem State.acceptValue_eq (r : Role) (v : Int) (t : Time) (timeout : Option Nat) (s : State) :
    s.acceptValue r v t timeout = { s with sig := (s.acceptValue r v t timeout).sig } := rfl

/-- Settles O23. -/
theorem arrivalIsExtracted : Obligations.ArrivalIsExtracted := by
  unfold Obligations.ArrivalIsExtracted
  refine ⟨fun a id bytes i s hp hf hs hm => ?_, fun _ _ _ => rfl, fun bytes t k s => ?_, fun r v t timeout s => ?_⟩
  · intro e hno
    have hcap : s.captures e = false := by
      obtain h | h | h := hno <;> simp [State.captures, h]
    rw [exec_machineArrival_of_data hf hs, State.classify_of_match hp hf hm]
    have hbytes : frameBytes a.frame = bytes := by rw [hf]; rfl
    change Host.Outcome.next ((s.extractAndCapture e a.frame a.time).forwardFrame i e a.frame) = _
    rw [State.extractAndCapture_of_not hcap, State.extractFrame, hbytes]
  · intro e inert v
    have hinert : inertEntry s.wen.record e = true ↔ inert := inertEntry_iff _ _
    have hgo (hen : e.enabled = true) (hni : ¬ inert) (hp : s.din.power = .running) :
        ¬ (e.enabled = false ∨ inertEntry s.wen.record e = true ∨ s.din.power = .parked) := by
      rintro (h | h | h)
      · exact absurd (hen.symm.trans h) (by simp)
      · exact hni (hinert.1 h)
      · exact absurd (hp.symm.trans h) (by simp)
    refine ⟨fun h => ?_, fun hen hni hp => ⟨fun hs => ?_, fun hs => ⟨fun hv => ?_, fun hlo hhi => ?_⟩⟩⟩
    · have hx : s.extraction e bytes = .nothing := if_pos (by rw [hinert]; exact h)
      simp only [State.handOffRef, State.handOff]
      rw [hx]
    · have hx : s.extraction e bytes = .short := by rw [State.extraction, if_neg (hgo hen hni hp), if_pos hs]
      simp only [State.handOffRef, State.handOff]
      rw [hx]
      rfl
    · have hx : s.extraction e bytes = .implausible := by
        rw [State.extraction, if_neg (hgo hen hni hp), if_neg (by simp [hs])]
        exact if_pos hv
      simp only [State.handOffRef, State.handOff]
      rw [hx]
      rfl
    · have hx : s.extraction e bytes = .value v := by
        rw [State.extraction, if_neg (hgo hen hni hp), if_neg (by simp [hs])]
        exact if_neg (not_or.2 ⟨not_lt.2 hlo, not_lt.2 hhi⟩)
      simp only [State.handOffRef, State.handOff]
      rw [hx]
  · intro w a
    have hw : clampRole r v = w := clampRole_eq r v
    refine ⟨?_, fun q hq => ?_, ?_, fun hr => ?_, rfl, ?_⟩
    · rw [State.acceptValue_slot, if_pos rfl, Slot.accept, hw]
    · rw [State.acceptValue_slot, if_neg hq]
    · simp [a]
    · simp [a, State.acceptValue, hr]
    · rw [State.takeValue, hw]
      cases r <;> rfl

/-! ### Copies (R15, R166, R176) -/

theorem State.offerC_of_blocked {s : State} (h : s.cport.c.blocked = true) (f : Frame) : s.offerC f = s :=
  if_pos h

theorem State.offerC_of_full {s : State} (h : s.cport.c.blocked = false) (hq : 16 ≤ s.cport.c.queue.length)
    (f : Frame) :
    s.offerC f = { s with cport := { s.cport with gap := true } } := by
  rw [State.offerC, if_neg (by simp [h]), if_neg (show ¬ s.cport.c.queue.length < Config.capC from Nat.not_lt.2 hq)]
  rfl

/-- A copy that C queues, with the budget still nonzero after it. -/
theorem State.offerC_of_room {s : State} (h : s.cport.c.blocked = false) (hq : s.cport.c.queue.length < 16)
    (hb : s.cport.budget ≠ 1) (f : Frame) :
    s.offerC f = { s with cport := { s.cport with
      c := { s.cport.c with queue := s.cport.c.queue ++ [f] }, budget := budgetAfter s.cport.budget } } := by
  rw [State.offerC, if_neg (by simp [h]), if_pos (show s.cport.c.queue.length < Config.capC from hq)]
  exact if_neg hb

/-- The copy that uses up the budget. -/
theorem State.offerC_of_last {s : State} (h : s.cport.c.blocked = false) (hq : s.cport.c.queue.length < 16)
    (hb : s.cport.budget = 1) (f : Frame) :
    s.offerC f = State.noticeCaptureDone s.cport.gap s.time { s with cport := { s.cport with
      c := { s.cport.c with queue := s.cport.c.queue ++ [f], held := true }, budget := 0, gap := false } } := by
  rw [State.offerC, if_neg (by simp [h]), if_pos (show s.cport.c.queue.length < Config.capC from hq)]
  refine (if_pos hb).trans ?_
  simp [State.modCport, ChannelState.push, hb, budgetAfter, max16]

theorem State.offerE_of_blocked {s : State} (h : s.cport.e.blocked = true) (f : Frame) : s.offerE f = s := by
  rw [State.offerE_eq, State.afterOffer_of_blocked h]

/-- Settles O24. -/
theorem copiesFillChannelC : Obligations.CopiesFillChannelC := by
  unfold Obligations.CopiesFillChannelC
  refine ⟨fun a id bytes i s hp hf hs hm => ?_, fun f s => ⟨fun h => ?_, fun h hq => ?_, fun h hq => ?_⟩,
    fun f s => ⟨fun h => ?_, fun h hq => ?_, fun h hq => ?_⟩, fun a detail t s ha => ?_⟩
  · intro e hand hcap hbudget hblocked
    have hbytes : frameBytes a.frame = bytes := by rw [hf]; rfl
    have hcopies : s.captures e = true := by simp [State.captures, hcap, hbudget, hblocked]
    have harrive : exec (.machineArrival a) s =
        .next ((s.extractAndCapture e a.frame a.time).forwardFrame i e a.frame) := by
      rw [exec_machineArrival_of_data hf hs, State.classify_of_match hp hf hm]
      rfl
    refine ⟨fun hx => ?_, fun hx hone => ?_, fun hx hone => ?_⟩
    · rw [harrive]
      simp only [State.extractAndCapture, hcopies, hx, State.extractFrame, State.captureFrame, Bool.false_and,
        Bool.false_eq_true, if_false, if_true]
    · rw [harrive]
      simp only [State.extractAndCapture, hcopies, hx, State.extractFrame, State.captureFrame, hone, hbytes,
          decide_false,
        Bool.and_false, Bool.false_eq_true, if_false, if_true]
      rfl
    · intro s'
      rw [harrive]
      simp only [State.extractAndCapture, hcopies, hx, State.extractFrame, State.captureFrame, hone, hbytes,
          decide_true,
        Bool.and_true, if_true]
      cases Config.captureFirst s.freeCount
      · exact .inr rfl
      · exact .inl rfl
  · exact State.offerC_of_blocked h f
  · exact State.offerC_of_full h hq f
  · intro copied
    refine ⟨fun hb => ?_, fun hlo hhi => ?_, fun hb => ?_⟩
    · rw [State.offerC_of_room h hq (by omega), budgetAfter, hb]
      rfl
    · rw [State.offerC_of_room h hq (by omega), budgetAfter, if_neg (by unfold max16; omega)]
    · intro held
      rw [State.offerC_of_last h hq hb]
      cases s.cport.gap <;> rfl
  · rw [State.offerE_eq, State.afterOffer_of_blocked h]
  · rw [State.offerE_eq, State.afterOffer_of_room h hq]
  · rw [State.offerE_eq, State.afterOffer_of_full h hq]
  · intro latched
    cases a <;> first | exact absurd rfl ha | rfl

end Sys2Proof.Machine
end

section
/-! Fields as slices of the frame word (R30). -/
namespace Sys2Proof.Machine

/-- A frame bit is a bit of the frame word. -/
theorem testBit_leNat (bytes : List Byte) (k : Nat) : (leNat bytes).testBit k = frameBit bytes k := by
  induction bytes generalizing k with
  | nil => simp [leNat, frameBit, byteAt]
  | cons b bs ih =>
    have hb : b.toNat < 2 ^ 8 := b.isLt
    rw [leNat, Nat.add_comm, show 256 = 2 ^ 8 by rfl, Nat.testBit_two_pow_mul_add _ hb]
    by_cases hk : k < 8
    · have h0 : k / 8 = 0 := by omega
      have h1 : k % 8 = k := by omega
      simp [hk, frameBit, byteAt, h0, h1, BitVec.getLsbD]
    · obtain ⟨j, rfl⟩ := Nat.exists_eq_add_of_le (Nat.le_of_not_lt hk)
      have h0 : (8 + j) / 8 = j / 8 + 1 := by omega
      have h1 : (8 + j) % 8 = j % 8 := by omega
      have hj : 8 + j - 8 = j := by omega
      simp [hk, ih, frameBit, byteAt, h0, h1, hj]

/-- The value of a list of frame bits, the most significant first. -/
def bitsNat (bytes : List Byte) (ks : List Nat) : Nat := ks.foldl (fun acc k => 2 * acc + (frameBit bytes k).toNat) 0

theorem bitsNat_cons (bytes : List Byte) (k : Nat) (ks : List Nat) :
    bitsNat bytes (k :: ks) = 2 ^ ks.length * (frameBit bytes k).toNat + bitsNat bytes ks := by
  have shift (ks : List Nat) (acc : Nat) : ks.foldl (fun acc k => 2 * acc + (frameBit bytes k).toNat) acc =
      2 ^ ks.length * acc + bitsNat bytes ks := by
    induction ks generalizing acc with
    | nil => simp [bitsNat]
    | cons k ks ih =>
      rw [bitsNat, List.foldl_cons, List.foldl_cons, ih, ih, List.length_cons, Nat.pow_succ]
      ring
  rw [bitsNat, List.foldl_cons, shift, Nat.mul_zero, Nat.zero_add]

/-- One more bit on top of a slice. -/
theorem slice_succ (x lo n : Nat) :
    x / 2 ^ lo % 2 ^ (n + 1) = 2 ^ n * (x.testBit (lo + n)).toNat + x / 2 ^ lo % 2 ^ n := by
  rw [Nat.pow_succ, Nat.mod_mul, Nat.add_comm, Nat.add_comm lo n, ← Nat.testBit_div_two_pow,
    Nat.testBit_eq_decide_div_mod_eq]
  have hbit : x / 2 ^ lo / 2 ^ n % 2 = 0 ∨ x / 2 ^ lo / 2 ^ n % 2 = 1 := Nat.mod_two_eq_zero_or_one _
  obtain h | h := hbit <;> simp [h]

theorem fieldNat_little (start length : Nat) (bytes : List Byte) :
    fieldNat .little start length bytes = leNat bytes / 2 ^ start % 2 ^ length := by
  change bitsNat bytes ((List.range length).reverse.map (start + ·)) = _
  induction length with
  | zero => simp [bitsNat, Nat.mod_one]
  | succ n ih =>
    rw [List.range_succ, List.reverse_append, List.reverse_singleton, List.singleton_append, List.map_cons,
      bitsNat_cons, ih, slice_succ, testBit_leNat]
    simp

/-! ### BIG fields -/

theorem bigBits_length (start n : Nat) : (bigBits start n).length = n := by
  induction n generalizing start with
  | zero => rfl
  | succ n ih => simp [bigBits, ih]

/-- The place of a frame bit in the frame read with byte 0 most significant. -/
def bigPlace (k : Nat) : Nat := 8 * (7 - k / 8) + k % 8

theorem frameBit_reverse {bytes : List Byte} (h : bytes.length = 8) {k : Nat} (hk : k < 64) :
    frameBit bytes.reverse (bigPlace k) = frameBit bytes k := by
  have h0 : bigPlace k / 8 = 7 - k / 8 := by unfold bigPlace; omega
  have h1 : bigPlace k % 8 = k % 8 := by unfold bigPlace; omega
  have hlt : 7 - k / 8 < bytes.length := by omega
  have hidx : bytes.length - 1 - (7 - k / 8) = k / 8 := by omega
  simp only [frameBit, h0, h1, byteAt, List.getD_eq_getElem?_getD, List.getElem?_reverse hlt, hidx]

/-- The bit of a BIG field that follows a bit. -/
def nextBig (k : Nat) : Nat := if k % 8 = 0 then k + 15 else k - 1

theorem bigPlace_next {k : Nat} (h : nextBig k < 64) : bigPlace (nextBig k) + 1 = bigPlace k := by
  revert h
  unfold nextBig bigPlace
  split <;> omega

/-- A field that fits lies at and below the place of its first bit. -/
theorem length_le_bigPlace {start length : Nat} (h : ∀ k ∈ bigBits start length, k < 64) :
    length ≤ bigPlace start + 1 := by
  induction length generalizing start with
  | zero => omega
  | succ n ih =>
    cases n with
    | zero => omega
    | succ n =>
      have htail : ∀ k ∈ bigBits (nextBig start) (n + 1), k < 64 := fun k hk => h k (List.mem_cons_of_mem _ hk)
      have hplace := bigPlace_next (htail _ List.mem_cons_self)
      have := ih htail
      omega

theorem fieldNat_big {start length : Nat} {bytes : List Byte} (hb : bytes.length = 8)
    (hfits : ∀ k ∈ bigBits start length, k < 64) :
    bitsNat bytes (bigBits start length) =
      leNat bytes.reverse / 2 ^ (bigPlace start + 1 - length) % 2 ^ length := by
  induction length generalizing start with
  | zero => simp [bigBits, bitsNat, Nat.mod_one]
  | succ n ih =>
    have hs : start < 64 := hfits start List.mem_cons_self
    have htail : ∀ k ∈ bigBits (nextBig start) n, k < 64 := fun k hk => hfits k (List.mem_cons_of_mem _ hk)
    have hlen := length_le_bigPlace hfits
    have hlow : leNat bytes.reverse / 2 ^ (bigPlace (nextBig start) + 1 - n) % 2 ^ n =
        leNat bytes.reverse / 2 ^ (bigPlace start + 1 - (n + 1)) % 2 ^ n := by
      cases n with
      | zero => simp [Nat.mod_one]
      | succ n =>
        have hplace := bigPlace_next (htail _ List.mem_cons_self)
        rw [hplace]
        congr 3
        omega
    have htop : bigPlace start + 1 - (n + 1) + n = bigPlace start := by omega
    change bitsNat bytes (start :: bigBits (nextBig start) n) = _
    rw [bitsNat_cons, bigBits_length, ih htail, hlow, slice_succ, htop, testBit_leNat, frameBit_reverse hb hs]

theorem bigBits_all (n : Nat) {length : Nat} (hl : 1 ≤ length) (start : Nat) :
    (∀ k ∈ bigBits start length, k / 8 < n) ↔ start / 8 + (length + 6 - start % 8) / 8 < n := by
  induction length, hl using Nat.le_induction generalizing start with
  | base =>
    simp only [bigBits, List.mem_singleton, forall_eq]
    omega
  | succ m hm ih =>
    simp only [bigBits, List.forall_mem_cons, ih]
    split <;> omega

/-- Settles O25. -/
theorem fieldIsABitSlice : Obligations.FieldIsABitSlice := by
  unfold Obligations.FieldIsABitSlice
  refine ⟨fieldNat_little, fun start length bytes hl hf hb => ?_, fun order start length n hl => ?_⟩
  · have hfits : ∀ k ∈ bigBits start length, k < 64 := by
      simpa [fieldFits, fieldBits] using hf
    exact fieldNat_big hb hfits
  · intro highest
    have touched (n : Nat) : (∀ k ∈ fieldBits order start length, k / 8 < n) ↔ highest < n := by
      cases order with
      | little =>
        simp only [fieldBits, List.mem_map, List.mem_reverse, List.mem_range, forall_exists_index, and_imp,
          forall_apply_eq_imp_iff₂]
        change _ ↔ (start + length - 1) / 8 < n
        refine ⟨fun h => ?_, fun h k hk => by omega⟩
        have := h (length - 1) (by omega)
        rwa [← Nat.add_sub_assoc hl] at this
      | big => exact bigBits_all n hl start
    constructor
    · simpa [fieldPresent] using touched n
    · rw [← touched 8]
      simp only [fieldFits, List.all_eq_true, decide_eq_true_eq]
      exact forall₂_congr fun k _ => by omega

end Sys2Proof.Machine
end

section
/-! Expiries, boom speed, the encoder and its offers. -/
namespace Sys2Proof.Machine

/-! ### Expiries (R36) -/

/-- Settles O27. -/
theorem expiriesAgeTheSlot : Obligations.ExpiriesAgeTheSlot := by
  unfold Obligations.ExpiriesAgeTheSlot
  refine ⟨fun r x s hx hr hv => ?_, fun r x s hx hr =>
      ⟨s.slotLost r x, ?_, ?_, ?_, fun hrole => ?_, fun hh hb => ?_, ?_⟩⟩
  · simp only [exec, execFreshnessExpiry, hx, State.due_of_reached hr, hv, if_true]
    rfl
  · simp only [exec, execLossExpiry, hx, State.due_of_reached hr]
  · have hsig : (s.modSlot r Slot.goLost).sig = s.sig.setSlot r (s.sig.slot r).goLost := rfl
    rw [Slot.goLost] at hsig
    unfold State.slotLost
    dsimp only
    split <;> simpa using hsig
  · have hlatch := State.raiseAlert_latches .signalLost (roleCode r) x (s.modSlot r Slot.goLost)
    unfold State.slotLost
    dsimp only
    split
    · exact State.applyDeferred_keeps _ (State.interruptRun_keeps _ _ (State.endWindow_keeps _ _ hlatch))
    · exact hlatch
  · have hwork : lossEndsWork r = true := by obtain rfl | rfl := hrole <;> rfl
    simp only [State.slotLost, hwork, if_true, State.applyDeferred_frame, State.interruptRun_frame,
      State.endWindow_window]
  · have hwork : lossEndsWork r = false := by cases r <;> first | rfl | contradiction
    simp [State.slotLost, hwork]
  · unfold State.slotLost
    dsimp only
    split <;> simp

/-! ### Boom speed (R38) -/

/-- Settles O28. -/
theorem boomSpeedFollowsAcceptedValues : Obligations.BoomSpeedFollowsAcceptedValues := by
  unfold Obligations.BoomSpeedFollowsAcceptedValues
  intro v t timeout s w g
  have hw : clampRole .boom v = w := clampRole_eq .boom v
  have hboom : g.boom = (s.sig.slot .boom).accept .boom v t timeout := rfl
  have homega : g.omega = omegaAfter s.sig.omega s.sig.prevBoom w t := by rw [← hw]; rfl
  refine ⟨by rw [hboom]; rfl, by rw [hboom, Slot.accept, hw], by rw [hboom]; rfl, ?_, ?_, fun hp => ?_,
    fun v0 t0 hp => ⟨fun ht => ?_, fun ht hle => ?_, fun hlt => ?_⟩, rfl, rfl, rfl, rfl, rfl⟩
  · rw [hboom, Slot.accept, hw]
    exact decide_eq_true_iff
  · rw [← hw]
    rfl
  · rw [homega, hp, omegaAfter]
  all_goals rw [homega, hp, omegaAfter]
  · subst ht
    exact if_pos (by simp [Time.since])
  · have hne : ¬ Time.since t t0 = 0 := by
      intro h
      apply ht
      unfold Time.since at h
      bv_omega
    exact (if_neg hne).trans (if_pos hle)
  · exact (if_neg (show ¬ Time.since t t0 = 0 by unfold Time.since; omega)).trans (if_neg (Nat.not_le.2 hlt))

/-! ### The encoder (R150 to R152) -/

theorem phaseStep_eq (a b a' b' : Bool) : phaseStep a b a' b' =
    if phasePlace a' b' = (phasePlace a b + 1) % 4 then some 1
    else if phasePlace a' b' = (phasePlace a b + 3) % 4 then some (-1)
    else if phasePlace a' b' = (phasePlace a b + 2) % 4 then none
    else some 0 := by
  revert a b a' b'
  decide

theorem phasePlace_lt (a b : Bool) : phasePlace a b < 4 := by
  cases a <;> cases b <;> decide

theorem counterDetail_eq (counter : BitVec 32) :
    counterDetail counter = (max (-32767) (min 32767 counter.toInt) % 65536).toNat := by
  have hclamp : clamp (-32767) 32767 counter.toInt = max (-32767) (min 32767 counter.toInt) := by
    unfold clamp
    split
    · omega
    · split <;> omega
  rw [counterDetail, signedBits, hclamp]
  rfl

theorem State.boomUnhomed_of_ne {s : State} (h : s.sig.boom.source ≠ .encoder) : s.boomUnhomed = s := if_neg h

theorem State.boomUnhomed_eq (s : State) : s.boomUnhomed = { s with sig := s.boomUnhomed.sig } := by
  unfold State.boomUnhomed
  split <;> rfl

/-- The state after a phase error but for the alert: the phases, the count, the homing, and an encoder-fed BOOM. -/
def State.unhomed (qa qb : Bool) (s : State) : State :=
  s.modDin fun d => { d with qa := qa, qb := qb, phaseErrors := satAdd max16 d.phaseErrors 1, homing := .unhomed }

theorem State.phaseError_of_homed {s : State} (h : s.din.homing = .homed) (qa qb : Bool) :
    s.phaseError qa qb = (s.unhomed qa qb).boomUnhomed.raiseAlert .phaseError (counterDetail s.din.counter) s.time :=
  if_pos h

theorem State.phaseError_of_unhomed {s : State} (h : s.din.homing = .unhomed) (qa qb : Bool) :
    s.phaseError qa qb = s.unhomed qa qb := if_neg (by rw [h]; simp)

/-- Settles O29. -/
theorem phasesAndIndexMoveTheEncoder : Obligations.PhasesAndIndexMoveTheEncoder := by
  unfold Obligations.PhasesAndIndexMoveTheEncoder
  intro qa qb s old new
  have hold : old < 4 := phasePlace_lt _ _
  have hstep := phaseStep_eq s.din.qa s.din.qb qa qb
  refine ⟨fun h => ?_, fun h => ?_, fun h => ⟨s.phaseError qa qb, ?_, ?_⟩, fun h => ?_, fun h => ?_⟩
  · rw [if_pos h] at hstep
    simp only [exec, execPhaseChange, hstep]
    rfl
  · rw [if_neg (show ¬ new = (old + 1) % 4 by omega), if_pos h] at hstep
    simp only [exec, execPhaseChange, hstep, State.modDin, BitVec.sub_eq_add_neg]
    rfl
  · rw [if_neg (show ¬ new = (old + 1) % 4 by omega), if_neg (show ¬ new = (old + 3) % 4 by omega), if_pos h] at hstep
    simp only [exec, execPhaseChange, hstep]
  · have herrors : satAdd max16 s.din.phaseErrors 1 = min 65535 (s.din.phaseErrors + 1) := rfl
    have hdin : (s.phaseError qa qb).din = { s.din with
        qa := qa, qb := qb, phaseErrors := min 65535 (s.din.phaseErrors + 1), homing := .unhomed } := by
      cases hh : s.din.homing with
      | unhomed => rw [State.phaseError_of_unhomed hh]; rfl
      | homed => rw [State.phaseError_of_homed hh]; simp [State.unhomed, herrors]
    refine ⟨hdin, fun hh => ?_, fun hh => ?_, fun hh hsrc => ?_, fun hsrc => ?_, by simp, by simp, by simp, by simp,
      by simp, ?_⟩
    · rw [State.phaseError_of_unhomed hh]
      exact ⟨rfl, rfl, rfl⟩
    · rw [State.phaseError_of_homed hh]
      exact State.raiseAlert_latches .phaseError _ _ _
    · rw [State.phaseError_of_homed hh]
      simp [State.boomUnhomed, State.unhomed, hsrc]
    · cases hh : s.din.homing with
      | unhomed => rw [State.phaseError_of_unhomed hh]; rfl
      | homed =>
        rw [State.phaseError_of_homed hh, State.boomUnhomed_of_ne (by exact hsrc)]
        simp [State.unhomed]
    · intro q detail
      refine ⟨fun hh => ?_, fun hh => ?_⟩
      · simp only [q, State.phaseError_of_unhomed hh]
        rfl
      · have hsig : (s.phaseError qa qb).sig = (s.unhomed qa qb).boomUnhomed.sig := by
          rw [State.phaseError_of_homed hh]
          simp
        have hq : q = (s.unhomed qa qb).boomUnhomed := by
          rw [State.boomUnhomed_eq, ← hsig]
          simp only [q, hdin]
          rfl
        rw [hq, State.phaseError_of_homed hh, State.raiseAlert_eq, counterDetail_eq]
        rfl
  · simp only [exec, execIndexPulse, h, if_true]
    rfl
  · simp [exec, execIndexPulse, h]

/-- Settles O30. -/
theorem offerTickOffersTheCount : Obligations.OfferTickOffersTheCount := by
  unfold Obligations.OfferTickOffersTheCount
  intro s hr moved
  have hexec : exec .encoderOfferTick s = .next (moved.offerBoom s.din.offerTick) := by
    simp only [exec, execEncoderOfferTick, State.due_of_reached hr]
    rfl
  refine ⟨fun h => ?_, fun r hrec hsrc hhom hpow => ?_⟩
  · have hskip : moved.offerBoom s.din.offerTick = moved := by
      unfold State.offerBoom
      cases hrec : moved.wen.record with
      | none => rfl
      | some r =>
        refine if_neg ?_
        rintro ⟨hsrc, hhom, hpow⟩
        obtain h | h | h | ⟨r', h, hsrc'⟩ := h
        · exact absurd (h.symm.trans hhom) (by simp)
        · exact absurd (h.symm.trans hpow) (by simp)
        · exact absurd (h.symm.trans hrec) (by simp)
        · obtain rfl := Option.some.inj (h.symm.trans hrec)
          exact absurd (hsrc'.symm.trans hsrc) (by simp)
    rw [hexec, hskip]
  · intro v
    have htake : moved.offerBoom s.din.offerTick = moved.takeValue .boom v s.din.offerTick none := by
      simp [State.offerBoom, moved, hrec, hsrc, hhom, hpow, MachineRecord.boomFromCount, v]
    rw [hexec, htake]
    have hslot : (moved.takeValue .boom v s.din.offerTick none).sig.slot .boom =
        (s.sig.slot .boom).accept .boom v s.din.offerTick none := by
      simp [State.takeValue, State.acceptValue_slot, moved]
    change (moved.takeValue .boom v s.din.offerTick none).sig.boom = _ at hslot
    refine ⟨rfl, _, rfl, by simp, ?_⟩
    rw [hslot, Slot.accept, clampRole_eq]
    exact ⟨rfl, rfl, rfl, rfl, rfl⟩

end Sys2Proof.Machine
end

section
/-! The operator lines (R146 to R149). -/
namespace Sys2Proof.Machine

/-! ### The lines -/

/-- A test holds of some element of a vector. -/
theorem vector_any_iff {α : Type} {n : Nat} (v : Vector α n) (p : α → Bool) :
    v.toList.any p = true ↔ ∃ i : Fin n, p v[i] = true := by
  simp only [List.any_eq_true, Vector.mem_toList_iff, Vector.mem_iff_getElem]
  constructor
  · rintro ⟨x, ⟨i, hi, rfl⟩, hx⟩
    exact ⟨⟨i, hi⟩, hx⟩
  · rintro ⟨i, hi⟩
    exact ⟨_, ⟨i, i.isLt, rfl⟩, hi⟩

theorem Din.keyOff_iff (d : Din) :
    d.keyOff = true ↔ ∃ j : Fin 4, d.lines[j].function = .key ∧ d.lines[j].debounced = false := by
  rw [Din.keyOff, vector_any_iff]
  simp

theorem Din.serviceLevel_iff (d : Din) :
    d.serviceLevel = true ↔ ∃ j : Fin 4, d.lines[j].function = .service ∧ d.lines[j].debounced = true := by
  rw [Din.serviceLevel, vector_any_iff]
  simp

/-- What a debounced edge of a line is: KEY and SERVICE take every edge, another function the edges of its setting. -/
theorem Line.matches_eq (l : Line) : l.matches l.raw =
    (decide (l.function = .key) || decide (l.function = .service) || decide (l.edge = .both) ||
      (if l.raw then decide (l.edge = .rise) else decide (l.edge = .fall))) := by
  cases hf : l.function <;> cases he : l.edge <;> cases hr : l.raw <;> simp [Line.matches, LineEdge.admits, hf, he]

theorem State.settlePower_eq (t : Time) (s : State) : s.settlePower t =
    if s.din.power = .running then if s.din.keyOff then s.park t else s
    else if s.din.keyOff then s else s.wake t := by
  unfold State.settlePower
  cases s.din.power <;> cases s.din.keyOff <;> rfl

/-- A load that the cab port owns stays at the end of SERVICE (R196). -/
theorem Mgt.freeMachineLoad_of_cab {m : Mgt} (h : ∀ a, m.assembly = some a → a.owner = .cab) :
    m.freeMachineLoad = m := by
  obtain ⟨mode, deferred, assembly, alerts, mask, node⟩ := m
  cases assembly with
  | none => rfl
  | some a => simp [Mgt.freeMachineLoad, h a rfl]

/-! ### Closing and cancelling loads -/

/-- What a closing leaves of the loads. -/
theorem State.closeLoadNow_closed (by' : ClosedBy) (t : Time) (s : State) :
    (s.closeLoadNow by' t).lac.load.buckets = [] ∧ (s.closeLoadNow by' t).lac.load.openTime = t ∧
    (s.lac.load.number ≠ 4294967295 → (s.closeLoadNow by' t).lac.completed.getLast? = some ⟨s.lac.load, t, by'⟩) ∧
    (s.lac.load.number = 4294967295 → (s.closeLoadNow by' t).lac.completed = [] ∧
      (s.closeLoadNow by' t).lac.load.number = 1) := by
  rw [State.closeLoadNow_eq]
  refine ⟨rfl, rfl, fun h => ?_, fun h => ?_⟩
  · simp [State.afterClosing, h]
  · simp [State.afterClosing, h]

/-- A cancellation removes the newest record and evaluates OVERLOAD. -/
theorem State.cancelLast_eq (t : Time) (s : State) (h : s.lac.load.buckets ≠ []) : s.cancelLast t =
    State.afterOverload t
      { s with lac := { s.lac with load := s.lac.load.withBuckets s.lac.load.buckets.dropLast } } := by
  rw [State.cancelLast, if_neg h, State.evalOverload_eq]
  rfl

/-- Settles O31. -/
theorem linesAreDebounced : Obligations.LinesAreDebounced := by
  unfold Obligations.LinesAreDebounced
  refine ⟨fun i level s h => ⟨s.modLine i fun l => l.rawChange level s.time, ?_, ?_, fun j hj => ?_, rfl⟩,
    fun i x s hx hr hraw => ?_⟩
  · simp only [exec, execLineLevelChange, if_neg (Ne.symm h)]
  · simp [State.modLine, Line.rawChange]
  · have hv : (i : Nat) ≠ j := fun he => hj (Fin.ext he.symm)
    simp [State.modLine, hv]
  · intro l hit s1 keyOff service
    have hmatch : l.matches l.raw = hit := l.matches_eq
    have hedge : (s.modLine i fun y => y.edgeAt l.raw x) = s1 := by
      simp only [State.modLine, State.modDin, Line.edgeAt, s1, ← hmatch]
      rfl
    have hexec : exec (.stabilityExpiry i) s = .next (if hit then s1.lineEvent l.function x else s1) := by
      simp only [exec, execStabilityExpiry, hx, State.due_of_reached hr, State.lineEdge, if_neg hraw]
      rw [← hedge, ← hmatch]
    have hkeyed : l.function = .key ∨ l.function = .service → hit = true := by
      rintro (h | h) <;> simp [hit, h]
    refine ⟨_, hexec, fun h => ?_, fun hf hh => ?_, fun hf hh => ?_, fun hf hh => ⟨fun h => ?_, fun hm hb => ?_⟩,
      fun hf hh => ⟨fun h => ?_, fun hm hb => ?_⟩, fun hf => ?_, fun hf => ?_⟩
    · obtain h | h := h
      · rw [h]
        exact ite_self _
      · rw [h]
        rfl
    · rw [if_pos hh, hf]
      rfl
    · rw [if_pos hh, hf]
      rfl
    · rw [if_pos hh, hf]
      obtain h | h := h
      · exact if_neg h
      · exact (ite_congr rfl (fun _ => if_pos h) (fun _ => rfl)).trans (ite_self _)
    · have hclose : s1.lineEvent .nextTruck x = s1.closeLoadNow .operator x := (if_pos hm).trans (if_neg hb)
      rw [if_pos hh, hf, hclose]
      obtain ⟨hempty, hopen, hfiled, hwrap⟩ :=
        s1.closeLoadNow_closed .operator x
      exact ⟨rfl, hempty, hopen, hfiled, hwrap, _, s1.loadClosedFrame_spec s.lac.load .operator,
        State.closeLoadNow_eq .operator x s1⟩
    · rw [if_pos hh, hf]
      obtain h | h := h
      · exact if_neg h
      · exact (ite_congr rfl (fun _ => if_pos h) (fun _ => rfl)).trans (ite_self _)
    · rw [if_pos hh, hf]
      exact (if_pos hm).trans (State.cancelLast_eq x s1 hb)
    · rw [if_pos (hkeyed (.inl hf)), hf]
      have hoff : s1.din.keyOff = true ↔ keyOff := s1.din.keyOff_iff
      have hsettle := s1.settlePower_eq x
      refine ⟨fun hp hk => ?_, fun hp hk => ?_, fun hp hk => ?_, fun hp hk => ?_⟩
      all_goals
        change s1.settlePower x = _
        have hpower : s1.din.power = _ := hp
        rw [hsettle, hpower]
      · simp [hoff.2 hk]
      · simp [mt hoff.1 hk]
      · simp [hoff.2 hk]
      · simp [mt hoff.1 hk]
    · rw [if_pos (hkeyed (.inr hf)), hf]
      have hlevel : s1.din.serviceLevel = true ↔ service := s1.din.serviceLevel_iff
      refine ⟨fun hv => ?_, fun hv => ?_⟩
      · change s1.settleService = _
        simp only [State.settleService, hlevel.2 hv, Bool.not_true, Bool.and_false, Bool.false_eq_true, if_false]
        rfl
      · have hoff : s1.din.serviceLevel = false := by simpa using mt hlevel.1 hv
        have hs : s1.settleService = { s1 with
            din := { s1.din with service := false }
            mgt := if s.din.service then s.mgt.freeMachineLoad else s.mgt } := by
          have hserv : s1.din.service = s.din.service := rfl
          rw [State.settleService, hoff, hserv]
          cases s.din.service <;> rfl
        have hev : s1.lineEvent .service x = s1.settleService := rfl
        rw [hev, hs]
        refine ⟨rfl, rfl, ?_, ?_⟩
        · rintro ⟨a, ha, howner⟩ hserv
          simp [hserv, Mgt.freeMachineLoad, ha, howner]
        · rintro (h | h)
          · rw [Mgt.freeMachineLoad_of_cab h]
            exact ite_self _
          · simp [h]

end Sys2Proof.Machine
end

section
/-! The end of a window: its result, its alerts, the tare and what CYT takes (R73 to R82, R110 to R113). -/
namespace Sys2Proof.Machine

/-! ### An alert touches channel E and the alert flags alone -/

section
variable (fWen : Wen → Wen) (s : State)

theorem State.offerE_modWen (f : Frame) : (s.modWen fWen).offerE f = (s.offerE f).modWen fWen := by
  unfold State.offerE
  rw [apply_ite (State.modWen fWen), apply_ite (State.modWen fWen)]
  rfl

theorem State.raiseSub_modWen (a : Alert) (sub detail : Nat) (t : Time) :
    (s.modWen fWen).raiseSub a sub detail t = (s.raiseSub a sub detail t).modWen fWen := by
  unfold State.raiseSub
  rw [apply_ite (State.modWen fWen), ← State.offerE_modWen]
  rfl

theorem State.raiseAlert_modWen (a : Alert) (detail : Nat) (t : Time) :
    (s.modWen fWen).raiseAlert a detail t = (s.raiseAlert a detail t).modWen fWen :=
  State.raiseSub_modWen fWen s a 15 detail t

end

/-! ### The result -/

/-- WEN after the end of an OPEN window with this result. -/
def Wen.ended (x : Wen) (r : WindowResult) : Wen :=
  { x with window := none, lastResult := some r, tareArmed := false,
           tare := if x.tareArmed then r.newTare.getD x.tare else x.tare }

/-- The alerts of an ending: UNSTEADY_BUCKET, and TARE_REFUSED at a tare pass that sets no tare (R79, R82). -/
def State.endAlerts (r : WindowResult) (s : State) : State :=
  if s.wen.tareArmed = true ∧ r.newTare = none ∧ r.reason ≠ some .mode then
    (s.raiseUnsteady r).raiseAlert .tareRefused (tareRefusedCode r.cls) r.endTime
  else s.raiseUnsteady r

/-- The end of an OPEN window: its alerts, WEN with the result, and CYT having taken it. -/
theorem State.endWindow_eq {s : State} {w : Window} (h : s.wen.window = some w) (e : Ending) (t : Time) :
    s.endWindow e t =
      { s.endAlerts (s.wen.result w e t) with
        wen := s.wen.ended (s.wen.result w e t), cyt := s.cyt.take (s.wen.result w e t) } := by
  have hkind := s.wen.result_kind w e t
  unfold State.endWindow
  simp only [h, hkind]
  generalize s.wen.result w e t = r
  have hwen : (s.raiseUnsteady r).wen = s.wen := by simp
  have hcyt : (s.raiseUnsteady r).cyt = s.cyt := by simp
  unfold State.endAlerts
  cases ha : s.wen.tareArmed
  · simp [State.modWen, State.modCyt, Wen.ended, ha]
  · cases hnew : r.newTare with
    | some m => simp [State.applyTarePass, hnew, State.modWen, State.modCyt, Wen.ended, ha]
    | none =>
      by_cases hmode : r.reason = some .mode
      · simp [State.applyTarePass, hnew, hmode, State.modWen, State.modCyt, Wen.ended, ha]
      · simp only [State.applyTarePass, hnew, hmode, if_true, if_false, State.raiseAlert_modWen]
        simp [State.modWen, State.modCyt, Wen.ended, ha, hnew, hmode]

theorem clamp_eq {lo hi : Int} (h : lo ≤ hi) (v : Int) : clamp lo hi v = max lo (min hi v) := by
  unfold clamp
  split
  · omega
  · split <;> omega

/-- The result of an ending that cuts the window off, or with too few samples, weighs nothing (R74). -/
theorem Wen.result_of_unweighed {x : Wen} {r : MachineRecord} {w : Window} {e : Ending} (hr : x.record = some r)
    (h : e.reason ≠ none ∨ w.samples.length < r.nMin) (t : Time) : x.result w e t =
      w.notWeighed e (e.reason.getD .few) (if x.tareArmed then .tarePass else .bucket) t := by
  cases he : e.reason with
  | some reason => exact Wen.result_of_reason he x w t
  | none =>
    have hfew : ¬ r.nMin ≤ w.samples.length := Nat.not_le.2 (h.resolve_left (fun hn => hn he))
    simp only [Wen.result, he, hr, if_neg hfew]
    rfl

/-- The result of another ending with samples enough carries a mass. -/
theorem Wen.result_of_weighed {x : Wen} {r : MachineRecord} {w : Window} {e : Ending} (hr : x.record = some r)
    (he : e.reason = none) (hn : r.nMin ≤ w.samples.length) (t : Time) : x.result w e t =
      w.weighed r e (if x.tareArmed then .tarePass else .bucket) x.tare t := by
  simp only [Wen.result, he, hr, if_pos hn]

theorem Ending.reason_ne_none (e : Ending) : e.reason ≠ none ↔ e = .lost ∨ e = .parked ∨ e = .mode := by
  cases e <;> simp [Ending.reason]

/-- What every result carries of its window and ending. -/
theorem Wen.result_of (x : Wen) (w : Window) (e : Ending) (t : Time) :
    (x.result w e t).ending = e ∧ (x.result w e t).openTime = w.openTime ∧ (x.result w e t).endTime = t ∧
    (x.result w e t).counts = w.counts ∧ (x.result w e t).n = w.samples.length := by
  unfold Wen.result
  dsimp only
  split
  · exact ⟨rfl, rfl, rfl, rfl, rfl⟩
  · exact ⟨rfl, rfl, rfl, rfl, rfl⟩
  · split <;> exact ⟨rfl, rfl, rfl, rfl, rfl⟩

/-- A result has the reason PARKED or MODE by that ending alone. -/
theorem Wen.result_reason_iff (x : Wen) (w : Window) (e : Ending) (t : Time) :
    ((x.result w e t).reason = some .parked ↔ e = .parked) ∧ ((x.result w e t).reason = some .mode ↔ e = .mode) := by
  unfold Wen.result
  dsimp only
  split
  · rename_i reason he
    cases e <;> cases he <;> simp [Window.notWeighed]
  · rename_i he _
    cases e <;> cases he <;> simp [Window.notWeighed]
  · rename_i he _
    split <;> cases e <;> cases he <;> simp [Window.notWeighed, Window.weighed]

/-- CYT after a result, by its kind. -/
theorem Cyt.take_eq (c : Cyt) (r : WindowResult) : c.take r =
    if (c.state = .lift ∨ c.state = .carry) ∧ r.reason ≠ some .parked ∧ r.reason ≠ some .mode then
      if r.kind = .tarePass then
        { c with pending := none, marker := true, state := cycleAfterResult c.state r.ending }
      else
        { c with pending := some (r.pendingRecord c.pending.isSome), marker := false,
                 state := cycleAfterResult c.state r.ending }
    else c := by
  have huses : c.uses r = true ↔
      (c.state = .lift ∨ c.state = .carry) ∧ r.reason ≠ some .parked ∧ r.reason ≠ some .mode := by
    simp [Cyt.uses, and_assoc]
  unfold Cyt.take
  cases hk : r.kind <;> simp [huses]

/-- A WEIGHED result sets the tare to a mean within its limits; another result sets none (R82). -/
theorem WindowResult.newTare_eq {x : WindowResult} {mean : Int} (h : x.cls = .weighed → x.mean = some mean) :
    x.newTare = if x.cls = .weighed ∧ -2000 ≤ mean ∧ mean ≤ 2000 then some mean else none := by
  unfold WindowResult.newTare
  split
  · rename_i m hc hm
    cases hm.symm.trans (h hc)
    simp [hc]
  · rename_i hno
    exact (if_neg fun hg => hno mean hg.1 (h hg.1)).symm

/-- Settles O36. -/
theorem windowEndDrivesTareAndCycle : Obligations.WindowEndDrivesTareAndCycle := by
  unfold Obligations.WindowEndDrivesTareAndCycle
  refine ⟨fun e t s h => State.endWindow_of_none h e t, fun e t w r s hw hr => ?_⟩
  intro d n mean spread cut
  have hd : d = _ := State.endWindow_eq hw e t
  have hcut : e.reason ≠ none ↔ cut := e.reason_ne_none
  have hun (h : cut ∨ n < r.nMin) := Wen.result_of_unweighed hr (h.imp_left hcut.2) t
  have hwe (hc : ¬ cut) (hn : r.nMin ≤ n) := Wen.result_of_weighed hr (not_not.1 (mt hcut.1 hc)) hn t
  have hkind := s.wen.result_kind w e t
  obtain ⟨hending, hopen, htime, hcounts, hn⟩ := s.wen.result_of w e t
  obtain ⟨hparked, hmode⟩ := s.wen.result_reason_iff w e t
  generalize s.wen.result w e t = x at hd hun hwe hkind hending hopen htime hcounts hn hparked hmode
  have htare (h : x.cls = .weighed ∨ x.cls = .unsteady) : x.mean = some mean ∧ x.spread = some spread := by
    by_cases hu : cut ∨ n < r.nMin
    · rw [hun hu] at h
      simp [Window.notWeighed] at h
    · obtain ⟨hc, hle⟩ := not_or.1 hu
      rw [hwe hc (Nat.le_of_not_lt hle)]
      exact ⟨rfl, rfl⟩
  refine ⟨x, by rw [hd]; rfl, hending, hopen, htime, hcounts, hn, hkind, fun h => ?_, fun hc hle => ?_, ?_⟩
  · rw [hun h]
    refine ⟨rfl, rfl, rfl, rfl, rfl, rfl, rfl, ?_⟩
    cases e <;> rfl
  · rw [hwe hc hle]
    refine ⟨rfl, rfl, rfl, rfl, ?_, decide_eq_true_iff, decide_eq_true_iff, rfl⟩
    change some (clamp 0 60000 (mean - s.wen.tare)).toNat = _
    rw [clamp_eq (by decide)]
  · intro good s1 s2 next
    have hnew : x.newTare = if good then some mean else none :=
      WindowResult.newTare_eq fun hc => (htare (.inl hc)).1
    have hs1 : s.raiseUnsteady x = s1 := by
      by_cases hc : x.cls = .unsteady
      · simp [State.raiseUnsteady, s1, hc, (htare (.inr hc)).2, htime, max16]
      · simp [State.raiseUnsteady, s1, hc]
    have hs2 : s.endAlerts x = s2 := by
      have hcode : tareRefusedCode x.cls = (match x.cls with
        | .weighed => 0
        | .unsteady => 1
        | .partialLift => 2
        | .notWeighed => 3) := by cases x.cls <;> rfl
      unfold State.endAlerts
      rw [hs1, htime, hcode]
      refine if_congr ?_ rfl rfl
      rw [hnew, ne_eq, hmode]
      simp
    rw [hd, hs2]
    have hwen : s.wen.ended x = { s.wen with window := none, lastResult := some x, tareArmed := false,
                                             tare := if s.wen.tareArmed = true ∧ good then mean else s.wen.tare } := by
      unfold Wen.ended
      rw [hnew]
      by_cases ha : s.wen.tareArmed = true <;> by_cases hg : good <;> simp [ha, hg]
    have hcyt := s.cyt.take_eq x
    simp only [ne_eq, hparked, hmode, hkind, hending] at hcyt
    rw [hwen, hcyt]
    cases s.wen.tareArmed
    · simp [WindowResult.pendingRecord, cycleAfterResult, next, hending, htime, hcounts, hn, n]
    · simp [cycleAfterResult, next]

end Sys2Proof.Machine
end

section
/-! The window's timeout, its test points and its samples (R61 to R69). -/
namespace Sys2Proof.Machine

/-- A deferred change leaves the last result. -/
@[simp] theorem State.applyDeferred_lastResult (t : Time) (s : State) :
    (s.applyDeferred t).wen.lastResult = s.wen.lastResult := by
  rcases State.applyDeferred_cases t s with ⟨-, he⟩ | ⟨-, d, -, ⟨-, he⟩ | ⟨-, he⟩⟩
  · rw [he]
  · rw [he, State.changeMode_wen]
    simp
  · rw [he]
    simp

/-- Settles O33: the timeout ends the window, and the deferred change after it leaves the result. -/
theorem windowTimeoutEndsTheWindow : Obligations.WindowTimeoutEndsTheWindow := by
  unfold Obligations.WindowTimeoutEndsTheWindow
  intro w r s hw hr hreached
  obtain ⟨hending, hopen, htime, hcounts, hn⟩ := s.wen.result_of w .timeout w.timeout
  refine ⟨(s.endWindow .timeout w.timeout).applyDeferred w.timeout, s.wen.result w .timeout w.timeout, ?_, by simp, ?_,
    hending, htime, hopen, hn, hcounts, s.wen.result_kind w .timeout w.timeout, fun h => ?_, fun h => ?_,
    by simp, by simp, by simp, by simp, by simp⟩
  · simp only [exec, execWindowTimeout, hw, Option.map_some, State.due_of_reached hreached]
  · rw [State.applyDeferred_lastResult, State.endWindow_eq hw]
    rfl
  · rw [Wen.result_of_weighed hr rfl h]
    exact ⟨rfl, rfl⟩
  · rw [Wen.result_of_unweighed hr (.inr h)]
    exact ⟨rfl, rfl, rfl, rfl⟩

/-! ### Test points -/

theorem State.testPoint_of_not_tracking {s : State} (h : s.tracking = false) (isHead : Bool) (t : Time) :
    s.testPoint isHead t = s := by
  simp [State.testPoint, h]

/-- A test point in RUN: the opening test, a HEAD value's sample, the ending tests, and the previous θ_eff (R61). -/
theorem State.testPoint_of_tracking {s : State} {r : MachineRecord} (h : s.tracking = true)
    (hr : s.wen.record = some r) (isHead : Bool) (t : Time) : s.testPoint isHead t =
      ((if isHead then (s.openTest r s.thetaEff t).weighSample r t else s.openTest r s.thetaEff t).endTest r s.thetaEff
        t).modWen fun w => { w with prevTheta := s.thetaEff } := by
  simp only [State.testPoint, h, if_true, hr]

theorem State.openTest_of_open {s : State} {w : Window} (h : s.wen.window = some w) (r : MachineRecord)
    (theta : Option Int) (t : Time) : s.openTest r theta t = s := by
  simp [State.openTest, h]

/-- No window opens but on an upward crossing of θ_lo in LIFT. -/
theorem State.openTest_of_no_crossing {s : State} {r : MachineRecord} {theta : Option Int}
    (h : ∀ prev th, s.wen.prevTheta = some prev → theta = some th →
      ¬ (s.cyt.state = .lift ∧ prev < r.thetaLo ∧ r.thetaLo ≤ th)) (t : Time) : s.openTest r theta t = s := by
  unfold State.openTest
  split
  · rename_i prev th _ hp
    exact if_neg (h prev th hp rfl)
  · rfl

theorem State.openTest_of_crossing {s : State} {r : MachineRecord} {prev th : Int} (hw : s.wen.window = none)
    (hp : s.wen.prevTheta = some prev) (hc : s.cyt.state = .lift) (hlt : prev < r.thetaLo) (hle : r.thetaLo ≤ th)
    (t : Time) : s.openTest r (some th) t = s.modWen fun w => { w with window := some (Window.opened r th t) } := by
  simp [State.openTest, hw, hp, hc, hlt, hle]

theorem State.weighSample_of_none {s : State} (h : s.wen.window = none) (r : MachineRecord) (t : Time) :
    s.weighSample r t = s := by
  simp [State.weighSample, h]

theorem State.endTest_of_none {s : State} (h : s.wen.window = none) (r : MachineRecord) (theta : Option Int)
    (t : Time) : s.endTest r theta t = s := by
  simp [State.endTest, h]

theorem State.endTest_of_absent (r : MachineRecord) (t : Time) (s : State) : s.endTest r none t = s := by
  unfold State.endTest
  cases s.wen.window <;> rfl

theorem State.endTest_of_some {s : State} {w : Window} (h : s.wen.window = some w) (r : MachineRecord) (th : Int)
    (t : Time) : s.endTest r (some th) t =
      if r.thetaHi ≤ th then s.endWindow .closed t
      else if th ≤ max w.highest th - r.h then
        (s.modWen fun x => { x with window := some { w with highest := max w.highest th } }).endWindow .reversed t
      else s.modWen fun x => { x with window := some { w with highest := max w.highest th } } := by
  simp only [State.endTest, h]

/-- A sample leaves the window OPEN. -/
theorem State.weighSample_window {s : State} {w : Window} (h : s.wen.window = some w) (r : MachineRecord) (t : Time) :
    ∃ w', (s.weighSample r t).wen.window = some w' := by
  simp [State.weighSample, h]

/-- The θ_eff of a moment is read from the slots alone. -/
theorem State.thetaEff_congr {s t : State} (h : t.sig = s.sig) : t.thetaEff = s.thetaEff := by
  simp [State.thetaEff, h]

/-- Settles O34, by the four steps of a test point in their order. -/
theorem windowOpensAndEndsAtTestPoints : Obligations.WindowOpensAndEndsAtTestPoints := by
  unfold Obligations.WindowOpensAndEndsAtTestPoints
  refine fun isHead t s => ⟨fun h => ?_, fun r hrun hpower hr => ?_⟩
  · refine State.testPoint_of_not_tracking (Bool.eq_false_iff.2 fun htr => ?_) isHead t
    obtain ⟨hrun, hpower⟩ := s.tracking_iff.1 htr
    simp [hrun, hpower] at h
  have htr : s.tracking = true := s.tracking_iff.2 ⟨hrun, hpower⟩
  have hpoint := State.testPoint_of_tracking htr hr
  refine ⟨by rw [hpoint]; rfl, fun hw hno => ?_, fun prev th hw hp hth hc hlt hle => ?_, fun w hw => ⟨?_, ?_, ?_⟩⟩
  · rw [hpoint, State.openTest_of_no_crossing hno, State.weighSample_of_none hw, ite_self,
      State.endTest_of_none hw]
    rfl
  · have hopen := State.openTest_of_crossing hw hp hc hlt hle t
    intro opened
    let s' : State := { s with wen := { s.wen with window := some opened } }
    have hpoint' := State.testPoint_of_tracking (s := s') htr hr
    have hsame : s'.thetaEff = some th := hth
    rw [hpoint, hpoint', State.openTest_of_open (s := s') (w := opened) rfl, hsame, hth, hopen]
    rfl
  · obtain ⟨w', hw'⟩ := State.weighSample_window hw r t
    have hpoint' := State.testPoint_of_tracking (s := s.weighSample r t) (r := r)
      (by simpa [State.tracking] using htr) (by simpa using hr) false t
    rw [hpoint, hpoint', State.openTest_of_open hw, State.openTest_of_open hw',
      State.thetaEff_congr (by simp : (s.weighSample r t).sig = s.sig)]
    rfl
  · intro hth
    rw [hpoint, State.openTest_of_open hw, hth, State.endTest_of_absent]
    rfl
  · intro th hth top moved kept
    rw [hpoint, State.openTest_of_open hw, hth, if_neg Bool.false_ne_true, State.endTest_of_some hw]
    refine ⟨fun hhi => ?_, fun hlo hdrop => ?_, fun hlo hstay => ?_⟩
    · rw [if_pos hhi]
      rfl
    · rw [if_neg (Int.not_le.2 hlo), if_pos hdrop]
      rfl
    · rw [if_neg (Int.not_le.2 hlo), if_neg (Int.not_le.2 hstay)]
      rfl

/-! ### Samples -/

theorem Slot.usable_of_valid {x : Slot} (h : x.state = .valid) : x.usable = x.value := if_pos h

theorem Slot.usable_of_invalid {x : Slot} (h : x.state ≠ .valid) : x.usable = none := if_neg h

theorem Slot.usableOrZero_of_unmapped {x : Slot} (h : x.state = .unmapped) : x.usableOrZero = some 0 := if_pos h

theorem Slot.usableOrZero_of_valid {x : Slot} (h : x.state = .valid) : x.usableOrZero = x.value := by
  simp [Slot.usableOrZero, Slot.usable, h]

theorem Slot.usableOrZero_of_invalid {x : Slot} (h : x.state ≠ .unmapped ∧ x.state ≠ .valid) :
    x.usableOrZero = none := by
  simp [Slot.usableOrZero, Slot.usable, h]

/-- F is absent without both of its inputs (R45). -/
theorem State.force_eq_none {s : State} (h : s.sig.head.usable = none ∨ s.sig.rod.usableOrZero = none) :
    s.force = none := by
  unfold State.force
  rcases h with h | h
  · rw [h]
    cases s.wen.record <;> rfl
  · rw [h]
    cases s.wen.record <;> cases s.sig.head.usable <;> rfl

theorem State.force_eq_some {s : State} {r : MachineRecord} {h p : Int} (hr : s.wen.record = some r)
    (hh : s.sig.head.usable = some h) (hp : s.sig.rod.usableOrZero = some p) : s.force = some (r.force h p) := by
  simp only [State.force, hr, hh, hp]

/-- θ_eff is absent without both of its inputs (R46). -/
theorem State.thetaEff_eq_none {s : State} (h : s.sig.boom.usable = none ∨ s.sig.pitch.usableOrZero = none) :
    s.thetaEff = none := by
  unfold State.thetaEff
  rcases h with h | h
  · rw [h]
  · rw [h]
    cases s.sig.boom.usable <;> rfl

theorem State.thetaEff_eq_some {s : State} {b p : Int} (hb : s.sig.boom.usable = some b)
    (hp : s.sig.pitch.usableOrZero = some p) : s.thetaEff = some (b + p) := by
  simp only [State.thetaEff, hb, hp]

/-- A speed above every used bound has no band. -/
theorem bandFor_eq_none {bands : Vector Band 8} {om : Int}
    (h : ∀ k : Fin 8, bands[k].upper ≠ 0 → bands[k].upper < om) : bandFor bands om = none := by
  refine List.find?_eq_none.2 fun b hb => ?_
  obtain ⟨k, hk, rfl⟩ := List.mem_iff_getElem.1 hb
  have hk8 : k < 8 := by simpa using hk
  have hband := h ⟨k, hk8⟩
  simpa using hband

/-- The band of a speed is the first used one that covers it (R66). -/
theorem bandFor_eq_some {bands : Vector Band 8} {om : Int} {k : Fin 8} (hused : bands[k].upper ≠ 0)
    (hcover : om ≤ bands[k].upper) (hfirst : ∀ j : Fin 8, j < k → bands[j].upper ≠ 0 → bands[j].upper < om) :
    bandFor bands om = some bands[k] := by
  refine List.find?_eq_some_iff_getElem.2 ⟨?_, k, by simp, by simp, fun j hj => ?_⟩
  · simpa using And.intro hused hcover
  · have hband := hfirst ⟨j, hj.trans k.isLt⟩ hj
    simpa [or_iff_not_imp_left] using hband

/-- A state after a sample: the latest F and θ_eff noted, and the window as the sample leaves it. -/
def State.sampled (s : State) (w : Window) (t : Time) : State :=
  { s with wen := { s.wen with window := some w, latest := match s.force with
    | some f => some ⟨f, s.thetaEff, t⟩
    | none => s.wen.latest } }

theorem State.noteLatest_modWindow (w : Window) (t : Time) (s : State) :
    ((s.noteLatest t).modWen fun x => { x with window := some w }) = s.sampled w t := by
  unfold State.noteLatest State.sampled
  cases s.force <;> rfl

/-- One sample in an OPEN window, by its outcome. -/
theorem State.weighSample_eq {s : State} {w : Window} (h : s.wen.window = some w) (r : MachineRecord) (t : Time) :
    s.weighSample r t = (s.sampled (w.afterSample (s.sampleOutcome r) t) t).raiseOverspeed w (s.sampleOutcome r) t := by
  simp only [State.weighSample, h, State.noteLatest_modWindow]

section
variable {s : State} {r : MachineRecord} {f th om : Int}

theorem State.sampleInputs_eq_none (h : s.force = none ∨ s.thetaEff = none) : s.sampleInputs = none := by
  unfold State.sampleInputs
  rcases h with h | h
  · rw [h]
  · rw [h]
    cases s.force <;> rfl

theorem State.sampleInputs_eq_some (hf : s.force = some f) (hth : s.thetaEff = some th) :
    s.sampleInputs = some (f, th) := by
  simp only [State.sampleInputs, hf, hth]

theorem State.sampleOutcome_of_stale (h : s.force = none ∨ s.thetaEff = none) : s.sampleOutcome r = .staleInput := by
  simp only [State.sampleOutcome, State.sampleInputs_eq_none h]

theorem State.sampleOutcome_of_outside (hf : s.force = some f) (hth : s.thetaEff = some th)
    (h : th < r.thetaLo ∨ r.thetaHi < th) : s.sampleOutcome r = .outside := by
  simp only [State.sampleOutcome, State.sampleInputs, hf, hth, if_pos h]

theorem State.sampleOutcome_of_stall (hf : s.force = some f) (hth : s.thetaEff = some th)
    (hin : ¬ (th < r.thetaLo ∨ r.thetaHi < th))
    (h : s.sig.omega = none ∨ ∃ om, s.sig.omega = some om ∧ om < r.omegaMin) : s.sampleOutcome r = .stall := by
  simp only [State.sampleOutcome, State.sampleInputs, hf, hth, if_neg hin]
  rcases h with h | ⟨om, h, hlt⟩
  · simp only [h]
  · simp only [h, if_pos hlt]

/-- A sample inside the angles and moving faster than every used band. -/
theorem State.sampleOutcome_of_overspeed (hf : s.force = some f) (hth : s.thetaEff = some th)
    (hin : ¬ (th < r.thetaLo ∨ r.thetaHi < th)) (hom : s.sig.omega = some om) (hmin : ¬ om < r.omegaMin)
    (hb : bandFor s.wen.bands om = none) : s.sampleOutcome r = .overspeed om := by
  simp only [State.sampleOutcome, State.sampleInputs, hf, hth, if_neg hin, hom, if_neg hmin, hb]

/-- A sample inside the angles with a band and a mass. -/
theorem State.sampleOutcome_of_mass {b : Band} {m : Int} (hf : s.force = some f) (hth : s.thetaEff = some th)
    (hin : ¬ (th < r.thetaLo ∨ r.thetaHi < th)) (hom : s.sig.omega = some om) (hmin : ¬ om < r.omegaMin)
    (hb : bandFor s.wen.bands om = some b) (hm : s.wen.sampleMass r f th = some m) : s.sampleOutcome r =
      if m < -20000 ∨ 80000 < m then .outOfRange else .accepted (b.correct m) := by
  simp only [State.sampleOutcome, State.sampleInputs, hf, hth, if_neg hin, hom, if_neg hmin, hb, hm]

end

/-- Settles O35: the tests of a sample in their order. -/
theorem samplesAreTestedInOrder : Obligations.SamplesAreTestedInOrder := by
  unfold Obligations.SamplesAreTestedInOrder
  refine ⟨fun r s hr => ⟨fun h => ?_, fun h => ?_, fun h hs hv => ⟨fun hu => ?_, fun p hp hpv => ?_⟩,
    fun b hs hv => ⟨fun hu => ?_, fun p hp hpv => ?_⟩⟩, fun r t w s hr hw => ?_⟩
  · exact State.force_eq_none (h.imp Slot.usable_of_invalid Slot.usableOrZero_of_invalid)
  · exact State.thetaEff_eq_none (h.imp Slot.usable_of_invalid Slot.usableOrZero_of_invalid)
  · rw [State.force_eq_some hr ((Slot.usable_of_valid hs).trans hv) (Slot.usableOrZero_of_unmapped hu)]
    simp [MachineRecord.force]
  · exact State.force_eq_some hr ((Slot.usable_of_valid hs).trans hv) ((Slot.usableOrZero_of_valid hp).trans hpv)
  · rw [State.thetaEff_eq_some ((Slot.usable_of_valid hs).trans hv) (Slot.usableOrZero_of_unmapped hu), add_zero]
  · exact State.thetaEff_eq_some ((Slot.usable_of_valid hs).trans hv) ((Slot.usableOrZero_of_valid hp).trans hpv)
  intro add left
  have hadd (n : Nat) : add n = bump n := by simp only [add, bump, satAdd, max16]
  have hleft (w' : Window) : left w' = s.sampled w' t := rfl
  simp -zeta only [hadd, hleft]
  clear_value add left
  have hsample := State.weighSample_eq hw r t
  refine ⟨fun h => ?_, fun f th hf hth => ⟨fun hout => ?_, fun hlo hhi => ?_⟩⟩
  · rw [hsample, State.sampleOutcome_of_stale h]
    rfl
  · rw [hsample, State.sampleOutcome_of_outside hf hth hout]
    rfl
  have hin : ¬ (th < r.thetaLo ∨ r.thetaHi < th) := by omega
  refine ⟨fun h => ?_, fun om hom hmin => ?_⟩
  · rw [hsample, State.sampleOutcome_of_stall hf hth hin h]
    rfl
  refine ⟨fun hno => ?_, fun k e l hused hcover hfirst he hl => ?_⟩
  · rw [hsample, State.sampleOutcome_of_overspeed hf hth hin hom (Int.not_lt.2 hmin) (bandFor_eq_none hno)]
    rfl
  · intro m m'
    have hmass : s.wen.sampleMass r f th = some m := by
      simp only [Wen.sampleMass, he, hl, m, MachineRecord.mass]
    rw [hsample, State.sampleOutcome_of_mass hf hth hin hom (Int.not_lt.2 hmin)
      (bandFor_eq_some hused hcover hfirst) hmass]
    have hcorrect : s.wen.bands[k].correct m = m' := rfl
    refine ⟨fun hout => ?_, fun hlow hhigh hroom => ?_, fun hlow hhigh hfull => ?_⟩
    · rw [if_pos hout]
      rfl
    · rw [if_neg (by omega), hcorrect]
      simp only [Window.afterSample, Window.store, if_pos (show w.samples.length < Config.capSamples from hroom)]
      rfl
    · rw [if_neg (by omega), hcorrect]
      simp only [Window.afterSample, Window.store,
        if_neg (show ¬ w.samples.length < Config.capSamples from Nat.not_lt.2 hfull)]
      rfl

end Sys2Proof.Machine
end

section
/-! Rounding, the lookup of a curve and the trimmed mean (R54, R56, R75). -/
namespace Sys2Proof.Machine

/-! ### Rounding -/

/-- A quotient's product with its divisor has the sign of the dividend and is a multiple of the divisor next to it. -/
theorem mul_rdiv {n d : Int} (hd : d ≠ 0) : ∃ p : Int, |d * rdiv n d| = p ∧ |n - d * rdiv n d| = abs (|n| - p) ∧
    2 * p ≤ 2 * |n| + |d| ∧ 2 * |n| < 2 * p + |d| := by
  have hpos : 0 < |d| := abs_pos.2 hd
  set q : Nat := (2 * n.natAbs + d.natAbs) / (2 * d.natAbs) with hq
  have hle : 2 * d.natAbs * q ≤ 2 * n.natAbs + d.natAbs := Nat.mul_div_le _ _
  have hlt : 2 * n.natAbs + d.natAbs < 2 * d.natAbs * (q + 1) := Nat.lt_mul_div_succ _ (by omega)
  have hr : rdiv n d = if decide (n < 0) = decide (d < 0) then (q : Int) else -q := rfl
  clear_value q
  zify at hle hlt
  refine ⟨|d| * q, ?_, ?_, by linarith, by linarith⟩
  · have habs : |rdiv n d| = q := by
      rw [hr]
      split
      · exact abs_of_nonneg (Int.natCast_nonneg q)
      · rw [abs_neg, abs_of_nonneg (Int.natCast_nonneg q)]
    rw [abs_mul, habs]
  · rw [hr]
    by_cases hn : n < 0 <;> by_cases hd' : d < 0 <;> simp only [hn, hd', decide_true, decide_false, if_true,
      if_false, Bool.true_eq_false, Bool.false_eq_true]
    · rw [abs_of_neg hn, abs_of_neg hd', ← abs_neg]
      congr 1
      ring
    · rw [abs_of_neg hn, abs_of_nonneg (not_lt.1 hd'), ← abs_neg]
      congr 1
      ring
    · rw [abs_of_nonneg (not_lt.1 hn), abs_of_neg hd']
      congr 1
      ring
    · rw [abs_of_nonneg (not_lt.1 hn), abs_of_nonneg (not_lt.1 hd')]

/-- A quotient is rounded to nearest, a tie away from zero (00_scope 6.3). -/
theorem rdiv_nearest {n d : Int} (hd : d ≠ 0) :
    2 * |n - d * rdiv n d| ≤ |d| ∧ (2 * |n - d * rdiv n d| = |d| → |n| < |d * rdiv n d|) := by
  obtain ⟨p, hp, habs, hle, hlt⟩ := mul_rdiv (n := n) hd
  rw [habs, hp]
  rcases abs_cases (|n| - p) with ⟨h, _⟩ | ⟨h, _⟩ <;> rw [h] <;> constructor <;> intros <;> omega

/-- A multiple of the divisor is divided exactly. -/
theorem rdiv_mul_self (a : Int) {d : Int} (hd : d ≠ 0) : rdiv (a * d) d = a := by
  have hpos : 0 < |d| := abs_pos.2 hd
  have hnear := (rdiv_nearest (n := a * d) hd).1
  have hfactor : a * d - d * rdiv (a * d) d = d * (a - rdiv (a * d) d) := by ring
  rw [hfactor, abs_mul] at hnear
  have hzero : |a - rdiv (a * d) d| < 1 := by nlinarith
  have heq := abs_lt.1 hzero
  omega

theorem rdiv_zero {d : Int} (hd : d ≠ 0) : rdiv 0 d = 0 := by simpa using rdiv_mul_self 0 hd

/-! ### The lookup -/

theorem MachineRecord.ok_grid {r : MachineRecord} (h : r.ok = true) : 4 ≤ r.n ∧ 50 ≤ r.dTheta := by
  simp only [MachineRecord.ok, within, Bool.and_eq_true, decide_eq_true_eq] at h
  omega

/-- The grid interval of an angle in the i-th interval, or past the last one. -/
theorem MachineRecord.gridIndex_eq {r : MachineRecord} {i : Nat} {th : Int} (hd : 0 < r.dTheta)
    (hlo : r.theta0 + i * r.dTheta ≤ th) (hhi : th < r.theta0 + (i + 1) * r.dTheta) :
    r.gridIndex th = min i (r.n - 2) := by
  have hdiv : (th - r.theta0).toNat / r.dTheta = i := by
    have hwidth : 0 ≤ (i : Int) * r.dTheta := by positivity
    have hoffset : ((th - r.theta0).toNat : Int) = th - r.theta0 := Int.toNat_of_nonneg (by linarith)
    refine Nat.div_eq_of_lt_le ?_ ?_
    · zify
      linarith
    · zify
      linarith
  rw [MachineRecord.gridIndex, hdiv]

/-- Between two grid angles the value is the rounded interpolation (R54). -/
theorem MachineRecord.lookup_between {r : MachineRecord} (hok : r.ok = true) (curve : List Int) {i : Nat}
    (hi : i + 1 < r.n) {th : Int} (hlo : r.theta0 + i * r.dTheta ≤ th) (hhi : th < r.theta0 + (i + 1) * r.dTheta) :
    r.lookup curve th = curve.getD i 0 +
      rdiv ((curve.getD (i + 1) 0 - curve.getD i 0) * (th - (r.theta0 + i * r.dTheta))) r.dTheta := by
  obtain ⟨hn, hd⟩ := MachineRecord.ok_grid hok
  have hindex : r.gridIndex th = i := by
    rw [MachineRecord.gridIndex_eq (by omega) hlo hhi]
    omega
  simp only [MachineRecord.lookup, hindex, MachineRecord.gridAngle]

/-- At a grid angle the value is the curve's (R54). -/
theorem MachineRecord.lookup_gridAngle {r : MachineRecord} (hok : r.ok = true) (curve : List Int) {i : Nat}
    (hi : i < r.n) : r.lookup curve (r.theta0 + i * r.dTheta) = curve.getD i 0 := by
  obtain ⟨hn, hd⟩ := MachineRecord.ok_grid hok
  have hd0 : (r.dTheta : Int) ≠ 0 := by omega
  have hindex : r.gridIndex (r.theta0 + i * r.dTheta) = min i (r.n - 2) :=
    MachineRecord.gridIndex_eq (by omega) le_rfl (by nlinarith)
  by_cases hlast : i + 1 < r.n
  · rw [MachineRecord.lookup_between hok curve hlast le_rfl (by nlinarith), sub_self, mul_zero, rdiv_zero hd0, add_zero]
  · obtain ⟨j, rfl⟩ : ∃ j, i = j + 1 := ⟨i - 1, by omega⟩
    have hj : min (j + 1) (r.n - 2) = j := by omega
    have hstep : r.theta0 + ((j + 1 : Nat) : Int) * r.dTheta - (r.theta0 + j * r.dTheta) = r.dTheta := by
      push_cast
      ring
    simp only [MachineRecord.lookup, hindex, hj, MachineRecord.gridAngle]
    rw [hstep, rdiv_mul_self _ hd0, add_sub_cancel]

/-! ### Sorting and trimming -/

theorem insertSorted_eq (x : Int) (l : List Int) : insertSorted x l = l.orderedInsert (· ≤ ·) x := by
  induction l with
  | nil => rfl
  | cons y ys ih => simp only [insertSorted, List.orderedInsert_cons, ih]

theorem sortMasses_eq (ms : List Int) : sortMasses ms = ms.insertionSort (· ≤ ·) := by
  induction ms with
  | nil => rfl
  | cons x xs ih => rw [sortMasses, insertSorted_eq, ih, List.insertionSort_cons]

theorem sortMasses_perm (ms : List Int) : (sortMasses ms).Perm ms := by
  rw [sortMasses_eq]
  exact List.perm_insertionSort _ ms

theorem sortMasses_sorted (ms : List Int) : (sortMasses ms).Pairwise (· ≤ ·) := by
  rw [sortMasses_eq]
  exact List.pairwise_insertionSort _ ms

/-- The order of the samples does not matter once they are sorted. -/
theorem sortMasses_congr {ms ms' : List Int} (h : ms.Perm ms') : sortMasses ms = sortMasses ms' :=
  List.Perm.eq_of_pairwise (fun _ _ _ _ => le_antisymm) (sortMasses_sorted ms) (sortMasses_sorted ms')
    (((sortMasses_perm ms).trans h).trans (sortMasses_perm ms').symm)

theorem trimmed_congr {ms ms' : List Int} (h : ms.Perm ms') (trim : Nat) : trimmed ms trim = trimmed ms' trim := by
  simp only [trimmed, sortMasses_congr h, h.length_eq]

theorem length_trimmed (ms : List Int) (trim : Nat) :
    (trimmed ms trim).length = ms.length - 2 * (ms.length * trim / 1000) := by
  simp only [trimmed, trimCount, List.length_take, List.length_drop, (sortMasses_perm ms).length_eq]
  omega

theorem trimmed_sublist (ms : List Int) (trim : Nat) : (trimmed ms trim).Sublist (sortMasses ms) :=
  (List.take_sublist _ _).trans (List.drop_sublist _ _)

/-- What trimming takes off: the t lowest and the t highest (R75). -/
theorem trimmed_split (ms : List Int) {trim : Nat} (h : trim ≤ 500) : ∃ low high : List Int,
    low.length = ms.length * trim / 1000 ∧ high.length = ms.length * trim / 1000 ∧
    (low ++ trimmed ms trim ++ high).Perm ms ∧
    (∀ x ∈ trimmed ms trim, (∀ y ∈ low, y ≤ x) ∧ ∀ z ∈ high, x ≤ z) ∧ ∀ y ∈ low, ∀ z ∈ high, y ≤ z := by
  set t := ms.length * trim / 1000 with ht
  have hhalf : 2 * t ≤ ms.length := by
    have hmul : ms.length * trim ≤ ms.length * 500 := Nat.mul_le_mul_left _ h
    omega
  have hlength := (sortMasses_perm ms).length_eq
  set low := (sortMasses ms).take t
  set high := ((sortMasses ms).drop t).drop (ms.length - 2 * t)
  have hall : low ++ trimmed ms trim ++ high = sortMasses ms := by
    rw [List.append_assoc, show trimmed ms trim = ((sortMasses ms).drop t).take (ms.length - 2 * t) from rfl,
      List.take_append_drop, List.take_append_drop]
  have hsorted := sortMasses_sorted ms
  rw [← hall, List.pairwise_append, List.pairwise_append] at hsorted
  obtain ⟨⟨-, -, hlow⟩, -, hhigh⟩ := hsorted
  refine ⟨low, high, ?_, ?_, hall ▸ sortMasses_perm ms, fun x hx => ⟨fun y hy => hlow y hy x hx, fun z hz => ?_⟩,
    fun y hy z hz => hhigh y (List.mem_append_left _ hy) z hz⟩
  · simp only [low, List.length_take]
    omega
  · simp only [high, List.length_drop]
    omega
  · exact hhigh x (List.mem_append_right _ hx) z hz

/-- In a sorted list the first value is the least and the last the greatest. -/
theorem sorted_bounds {l : List Int} (h : l.Pairwise (· ≤ ·)) {x : Int} (hx : x ∈ l) :
    l.headD 0 ≤ x ∧ x ≤ l.getLastD 0 := by
  cases l with
  | nil => cases hx
  | cons a as =>
    constructor
    · rcases List.mem_cons.1 hx with rfl | hmem
      · exact le_rfl
      · exact (List.pairwise_cons.1 h).1 x hmem
    · rw [← List.dropLast_append_getLast (List.cons_ne_nil a as)] at h hx
      rw [List.getLastD_eq_getLast?, List.getLast?_eq_some_getLast (List.cons_ne_nil a as), Option.getD_some]
      rcases List.mem_append.1 hx with hmem | hmem
      · exact (List.pairwise_append.1 h).2.2 x hmem _ (List.mem_singleton.2 rfl)
      · exact (List.mem_singleton.1 hmem).le

/-- Settles O37. -/
theorem massesAreRoundedReadAndTrimmed : Obligations.MassesAreRoundedReadAndTrimmed := by
  unfold Obligations.MassesAreRoundedReadAndTrimmed
  refine ⟨fun n d hd => rdiv_nearest hd, fun r curve i hok _ hi => MachineRecord.lookup_gridAngle hok curve hi,
    fun r curve i th hok hi hlo hhi => MachineRecord.lookup_between hok curve hi hlo hhi, fun r e l h => ⟨?_, ?_⟩,
    fun ms ms' trim hperm => ?_⟩
  · rw [MachineRecord.mass, sub_self, mul_zero, rdiv_zero (by omega)]
  · exact rdiv_mul_self _ (by omega)
  · intro t kept
    have hsorted : kept.Pairwise (· ≤ ·) := (sortMasses_sorted ms).sublist (trimmed_sublist ms trim)
    refine ⟨?_, ?_, length_trimmed ms trim, fun x hx => ?_, trimmed_split ms, rfl, fun x hx y hy => ?_, fun hne => ?_⟩
    · simp only [trimmedMean, trimmed_congr hperm]
    · simp only [trimmedSpread, trimmed_congr hperm]
    · exact (sortMasses_perm ms).mem_iff.1 ((trimmed_sublist ms trim).subset hx)
    · have hlow := (sorted_bounds hsorted hy).1
      have hhigh := (sorted_bounds hsorted hx).2
      change _ ≤ (((kept.getLastD 0 - kept.headD 0).toNat : Nat) : Int)
      omega
    · have hlast : kept.getLastD 0 ∈ kept := by
        rw [List.getLastD_eq_getLast?, List.getLast?_eq_some_getLast hne]
        exact List.getLast_mem hne
      have hfirst : kept.headD 0 ∈ kept := by
        obtain ⟨a, as, has⟩ := List.exists_cons_of_ne_nil hne
        rw [has]
        exact List.mem_cons_self
      refine ⟨_, hlast, _, hfirst, ?_⟩
      have hle := (sorted_bounds hsorted hlast).1
      change _ = (((kept.getLastD 0 - kept.headD 0).toNat : Nat) : Int)
      omega

end Sys2Proof.Machine
end

section
/-! CYT's evaluations, the tip detector and dump events (R103 to R119). -/
namespace Sys2Proof.Machine

theorem State.tracking_of_idle {s : State} (h : s.mgt.mode ≠ .run ∨ s.din.power = .parked) : s.tracking = false :=
  Bool.eq_false_iff.2 fun htr => by
    obtain ⟨hrun, hpower⟩ := s.tracking_iff.1 htr
    simp [hrun, hpower] at h

theorem State.tracking_of_not_idle {s : State} (h : ¬ (s.mgt.mode ≠ .run ∨ s.din.power = .parked)) :
    s.tracking = true := by
  rw [not_or, not_not] at h
  exact s.tracking_iff.2 ⟨h.1, by cases hp : s.din.power <;> simp_all⟩

/-! ### Evaluations -/

theorem State.evaluate_of_unready {s : State} (h : s.mgt.mode ≠ .run ∨ s.din.power = .parked ∨
    s.sig.boom.state ≠ .valid ∨ s.sig.head.state ≠ .valid) (t : Time) : s.evaluate t = s := by
  unfold State.evaluate
  rcases h with h | h | h | h
  · rw [State.tracking_of_idle (.inl h)]
    rfl
  · rw [State.tracking_of_idle (.inr h)]
    rfl
  · rw [Slot.usable_of_invalid h]
    cases s.wen.record <;> simp
  · rw [Slot.usable_of_invalid h]
    cases s.wen.record <;> cases s.sig.boom.usable <;> simp

theorem State.evaluate_eq {s : State} {r : MachineRecord} {th p : Int} (htr : s.tracking = true)
    (hr : s.wen.record = some r) (hb : s.sig.boom.usable = some th) (hh : s.sig.head.usable = some p) (t : Time) :
    s.evaluate t = s.cycleTo (r.nextCycle s.cyt.state th s.force s.thetaEff) t := by
  simp only [State.evaluate, htr, if_true, hr, hb, hh]

/-- A test of an input passes by a present value alone. -/
theorem meets_eq_true {v : Option Int} {p : Int → Bool} : meets v p = true ↔ ∃ x, v = some x ∧ p x = true := by
  cases v <;> simp [meets]

theorem State.cycleTo_of_eq {s : State} {c : CycleState} (h : c = s.cyt.state) (t : Time) : s.cycleTo c t = s := by
  rw [h, State.cycleTo_self]

/-- Settles O38: one lemma chooses the next state, and the split follows the present one. -/
theorem evaluationFollowsTheTable : Obligations.EvaluationFollowsTheTable := by
  unfold Obligations.EvaluationFollowsTheTable
  refine fun t s => ⟨fun h => State.evaluate_of_unready h t, fun r th p hrun hpower hr hb hbv hh hhv => ?_⟩
  intro go
  rw [State.evaluate_eq (s.tracking_iff.2 ⟨hrun, hpower⟩) hr ((Slot.usable_of_valid hb).trans hbv)
    ((Slot.usable_of_valid hh).trans hhv)]
  refine ⟨fun hc => ⟨fun f hf hle hdig => ?_, fun hno => ?_⟩, fun hc => ⟨fun hlift => ?_, fun f hf hle hrel => ?_,
    fun hle hno => ?_⟩, fun hc => ⟨fun hle => ?_, fun hlt => ?_⟩, fun hc => ⟨fun te hte hlt => ?_, fun hno => ?_⟩,
    fun hc => ⟨fun hle => ?_, fun hlt => ?_⟩⟩ <;> rw [hc] <;> unfold MachineRecord.nextCycle <;> dsimp only
  · rw [if_pos ⟨hle, meets_eq_true.2 ⟨f, hf, decide_eq_true hdig⟩⟩, State.cycleTo_dig t (by simp [hc])]
    rfl
  · rw [if_neg, State.cycleTo_of_eq hc.symm]
    rintro ⟨hle, hmeets⟩
    obtain ⟨f, hf, hdig⟩ := meets_eq_true.1 hmeets
    have hdig := of_decide_eq_true hdig
    rcases hno with hlt | hnone | ⟨f', hf', hlt⟩
    · omega
    · simp [hnone] at hf
    · cases hf.symm.trans hf'
      omega
  · rw [if_pos hlift, State.cycleTo_of_ne t (by simp [hc]) (by simp) (by simp)]
    rfl
  · rw [if_neg (by omega), if_pos ⟨hle, meets_eq_true.2 ⟨f, hf, decide_eq_true hrel⟩⟩,
      State.cycleTo_of_ne t (by simp [hc]) (by simp) (by simp [hc])]
    rfl
  · rw [if_neg (Int.not_lt.2 hle), if_neg, State.cycleTo_of_eq hc.symm]
    rintro ⟨hdig, hmeets⟩
    obtain ⟨f, hf, hrel⟩ := meets_eq_true.1 hmeets
    have hrel : f < r.fDig - rdiv r.fDig 8 := of_decide_eq_true hrel
    rcases hno with hlt | hnone | ⟨f', hf', hle'⟩
    · omega
    · simp [hnone] at hf
    · cases hf.symm.trans hf'
      omega
  · rw [if_pos hle, State.cycleTo_returned t hc]
    rfl
  · rw [if_neg (Int.not_le.2 hlt), State.cycleTo_of_eq hc.symm]
  · rw [if_pos (meets_eq_true.2 ⟨te, hte, decide_eq_true hlt⟩),
      State.cycleTo_of_ne t (by simp [hc]) (by simp) (by simp)]
    rfl
  · rw [if_neg, State.cycleTo_of_eq hc.symm]
    intro hmeets
    obtain ⟨te, hte, hlt⟩ := meets_eq_true.1 hmeets
    have hlt := of_decide_eq_true hlt
    rcases hno with hnone | ⟨te', hte', hle⟩
    · simp [hnone] at hte
    · cases hte.symm.trans hte'
      omega
  · rw [if_pos hle, State.cycleTo_of_ne t (by simp [hc]) (by simp) (by simp [hc])]
    rfl
  · rw [if_neg (Int.not_le.2 hlt), State.cycleTo_of_eq hc.symm]

/-! ### Dump events -/

theorem State.tipTest_of_not_tracking {s : State} (h : s.tracking = false) (v : Int) (t : Time) :
    s.tipTest v t = s := by
  simp [State.tipTest, h]

theorem State.tipTest_eq {s : State} {r : MachineRecord} (h : s.tracking = true) (hr : s.wen.record = some r) (v : Int)
    (t : Time) : s.tipTest v t =
      if s.cyt.tipArmed then
        if v ≤ r.thetaDump then (s.modCyt fun c => { c with tipArmed := false }).dumpEvent t else s
      else if r.thetaDump + r.h < v then s.modCyt fun c => { c with tipArmed := true }
      else s := by
  simp only [State.tipTest, h, if_true, hr]

/-- A dump event is ignored outside RUN, while PARKED, and in IDLE, DIG and LOWER (R115, R118). -/
theorem State.dumpEvent_of_ignored {s : State}
    (h : s.tracking = false ∨ s.cyt.state ≠ .lift ∧ s.cyt.state ≠ .carry) (t : Time) : s.dumpEvent t = s := by
  unfold State.dumpEvent
  rcases h with h | ⟨hl, hc⟩
  · simp [h]
  · simp [hl, hc]

/-- A dump event in LIFT or CARRY: the window's end, the record or the tare pass, and LOWER (R116). -/
theorem State.dumpEvent_eq {s : State} (h : s.tracking = true) (hc : s.cyt.state = .lift ∨ s.cyt.state = .carry)
    (t : Time) : s.dumpEvent t = ((s.endWindow .dumped t).dumpRecord t).modCyt fun c =>
      { c with pending := none, marker := false, state := .lower } := by
  rcases hc with hc | hc <;> simp [State.dumpEvent, h, hc]

/-- Ending the window leaves a cycle in LIFT or CARRY in one of the two. -/
theorem Cyt.take_raised {c : Cyt} (h : c.state = .lift ∨ c.state = .carry) (r : WindowResult) :
    (c.take r).state = .lift ∨ (c.take r).state = .carry := by
  rcases c.take_cases r with he | ⟨-, hs, -⟩
  · rwa [he]
  · exact hs

/-- The record handed at a dump, field by field (R117). -/
theorem Cyt.handed_of_none {c : Cyt} (h : c.pending = none) (t : Time) : c.handed t =
    { mass := none, cls := .notWeighed, reason := some .noWindow, belowZero := false, overRange := false,
      reweighed := false, digToDump := t - c.start.getD t, dumpTime := t, n := 0 } := by
  simp only [Cyt.handed, h]

theorem Cyt.handed_of_some {c : Cyt} {q : PendingRecord} (h : c.pending = some q) (t : Time) : c.handed t =
    { mass := q.mass, cls := q.cls, reason := q.reason, belowZero := q.belowZero, overRange := q.overRange,
      reweighed := q.reweighed, digToDump := t - c.start.getD t, dumpTime := t, n := q.n } := by
  simp only [Cyt.handed, h]

theorem Cyt.handed_times (c : Cyt) (t : Time) :
    (c.handed t).digToDump = t - c.start.getD t ∧ (c.handed t).dumpTime = t := by
  unfold Cyt.handed
  cases c.pending <;> exact ⟨rfl, rfl⟩

/-- A dump with the window NONE and no tare-pass marker hands its record and counts a cycle. -/
theorem State.dumpEvent_of_record {s : State} (h : s.tracking = true)
    (hc : s.cyt.state = .lift ∨ s.cyt.state = .carry) (hw : s.wen.window = none) (hm : s.cyt.marker = false)
    (t : Time) : s.dumpEvent t = (s.addBucket (s.cyt.handed t) t).countCycle.modCyt fun c =>
      { c with pending := none, marker := false, state := .lower } := by
  rw [State.dumpEvent_eq h hc, State.endWindow_of_none hw]
  simp [State.dumpRecord, hm]

/-- Settles O39. -/
theorem tipTestsAndDumpsFollowTheCycle : Obligations.TipTestsAndDumpsFollowTheCycle := by
  unfold Obligations.TipTestsAndDumpsFollowTheCycle
  intro t s idle lowered
  refine ⟨fun v hi => State.tipTest_of_not_tracking (State.tracking_of_idle hi) v t, fun v r hi hr => ?_,
    fun h => State.dumpEvent_of_ignored (h.imp_left State.tracking_of_idle) t, fun hi hc => ?_⟩
  · rw [State.tipTest_eq (State.tracking_of_not_idle hi) hr]
    refine ⟨fun ha hlt => ?_, fun ha hle => ?_, fun ha hlt => ?_, fun ha hle => ?_⟩
    · rw [ha, if_neg Bool.false_ne_true, if_pos hlt]
      rfl
    · rw [ha, if_neg Bool.false_ne_true, if_neg (Int.not_lt.2 hle)]
    · rw [ha, if_pos rfl, if_neg (Int.not_le.2 hlt)]
    · rw [ha, if_pos rfl, if_pos hle]
      rfl
  · have htr := State.tracking_of_not_idle hi
    refine ⟨fun hw => ?_, fun hw hm => ?_, fun x hw hm hx => ?_⟩
    · obtain ⟨w, hw⟩ := Option.isSome_iff_exists.1 hw
      have htr' : (s.endWindow .dumped t).tracking = true := by simpa [State.tracking] using htr
      have hc' : (s.endWindow .dumped t).cyt.state = .lift ∨ (s.endWindow .dumped t).cyt.state = .carry := by
        rw [State.endWindow_cyt hw]
        exact Cyt.take_raised hc _
      rw [State.dumpEvent_eq htr hc, State.dumpEvent_eq htr' hc', State.endWindow_of_none (s.endWindow_window _ _)]
    · rw [State.dumpEvent_eq htr hc, State.endWindow_of_none hw, State.dumpRecord, hm, if_pos rfl]
      rfl
    · obtain ⟨hdig, htime⟩ := s.cyt.handed_times t
      rw [hx, Option.getD_some] at hdig
      refine ⟨s.cyt.handed t, hdig, htime, fun hp => ?_, fun q hp => ?_, ?_⟩
      · rw [Cyt.handed_of_none hp]
        exact ⟨rfl, rfl, rfl, rfl, rfl, rfl, rfl⟩
      · rw [Cyt.handed_of_some hp]
        exact ⟨rfl, rfl, rfl, rfl, rfl, rfl, rfl⟩
      · intro d
        have hcyt : d.cyt = s.cyt := by simp [d]
        have hdump : s.dumpEvent t = d.countCycle.modCyt fun c =>
            { c with pending := none, marker := false, state := .lower } := State.dumpEvent_of_record htr hc hw hm t
        rw [hdump]
        clear_value d
        simp only [lowered, ← hcyt]
        rfl

end Sys2Proof.Machine
end

section
/-! A record joins the current load (R128 to R131). -/
namespace Sys2Proof.Machine

/-! ### One record appended -/

/-- A record with its BUCKET frame and OVERLOAD after it, on a load that is not closed first. -/
theorem State.appendBucket_evalOverload (b : BucketRecord) (t : Time) (s : State) :
    ∃ f, BucketFrame s.mgt.node (s.lac.load.withBuckets (s.lac.load.buckets ++ [b])) b f ∧
      (s.appendBucket b).evalOverload t = (({ s with lac := { s.lac with
        load := s.lac.load.withBuckets (s.lac.load.buckets ++ [b]) } } : State).afterOffer f).afterOverload t := by
  refine ⟨_, State.bucketFrame_spec _ b (s.modLac fun a =>
      { a with load := a.load.withBuckets (a.load.buckets ++ [b]) }),
    ?_⟩
  rw [State.evalOverload_eq, State.appendBucket, State.offerE_eq]
  rfl

/-- A load with room is not closed first (R130). -/
theorem State.autoClose_of_room {s : State} (h : s.lac.load.buckets.length < 16) (t : Time) : s.autoClose t = s :=
  if_pos h

theorem Lac.autoClosed_of_room {a : Lac} (h : a.load.buckets.length < 16) (t : Time) : a.autoClosed t = a := if_pos h

/-- A fill is the rounded quotient within its limits (R129). -/
theorem fillOf_eq (mass rho volume : Nat) : fillOf mass rho volume =
    (max 0 (min 2000 (rdiv (mass * 1000000) (rho * volume)))).toNat := by
  rw [fillOf, clamp_eq (by decide)]

/-- The record of a present mass carries its fill by the record in force. -/
theorem State.bucketRecord_fill {h : HandedRecord} {m : Nat} {r : MachineRecord} {s : State} (hm : h.mass = some m)
    (hr : s.wen.record = some r) : (s.bucketRecord h).fill = some (max 0 (min 2000
      (rdiv (m * 1000000) (s.lac.materials[s.lac.load.material] * r.volume)))).toNat := by
  simp only [State.bucketRecord, hm, Option.map_some, fillOf_eq, State.ratedVolume, hr, Option.getD_some]

/-- One more cycle counted and CYT in LOWER, as one update. -/
theorem State.countCycle_lowered {q : State} {c : Cyt} (h : q.cyt = c) :
    (q.countCycle.modCyt fun x => { x with pending := none, marker := false, state := .lower }) =
      { q with
        cyt := { c with pending := none, marker := false, state := .lower }
        lac := { q.lac with totals := (q.countCycle.modCyt fun x =>
          { x with pending := none, marker := false, state := .lower }).lac.totals } } := by
  subst h
  rfl

/-- Settles O40. -/
theorem dumpHandsOneRecord : Obligations.DumpHandsOneRecord := by
  unfold Obligations.DumpHandsOneRecord
  intro t s hrun hpower hc hw hmarker hroom
  have hdump := State.dumpEvent_of_record (s.tracking_iff.2 ⟨hrun, hpower⟩) hc hw hmarker t
  generalize hb : s.bucketRecord (s.cyt.handed t) = b
  have hhanded : b.handed = s.cyt.handed t := by
    rw [← hb]
    rfl
  have hlac : (s.addBucket (s.cyt.handed t) t).lac = s.lac.rebucketed (s.lac.load.buckets ++ [b]) := by
    rw [State.addBucket_lac, Lac.autoClosed_of_room hroom, State.autoClose_of_room hroom, hb]
  obtain ⟨f, hf, hd⟩ := s.appendBucket_evalOverload b t
  have hadd : s.addBucket (s.cyt.handed t) t = (s.appendBucket b).evalOverload t := by
    rw [State.addBucket, State.autoClose_of_room hroom, hb]
  have hcyt : (s.addBucket (s.cyt.handed t) t).cyt = s.cyt := by simp
  obtain ⟨hdig, htime⟩ := s.cyt.handed_times t
  refine ⟨b, ?_, ?_, ?_, fun q hq => ?_, fun hp => ?_, fun q m r hq hm hr => ?_, fun x hx => ?_, ?_, ?_, ?_, ?_,
    ?_, by simp, by simp, f, hf, ?_⟩
  · rw [hdump]
    change (s.addBucket (s.cyt.handed t) t).lac.load.buckets = _
    rw [hlac]
    simp [Lac.rebucketed, Load.withBuckets]
  · rw [hhanded, htime]
  · rw [← hb]
    rfl
  · rw [hhanded, Cyt.handed_of_some hq]
    exact ⟨rfl, rfl, rfl, rfl⟩
  · have hfill : b.fill = none := by
      rw [← hb, Cyt.handed_of_none hp]
      rfl
    rw [hhanded, Cyt.handed_of_none hp]
    exact ⟨rfl, rfl, rfl, hfill⟩
  · rw [← hb]
    refine State.bucketRecord_fill ?_ hr
    rw [Cyt.handed_of_some hq]
    exact hm
  · rw [hhanded, hdig, hx]
    rfl
  · rw [hdump]
    change (s.addBucket (s.cyt.handed t) t).lac.load.number = _
    rw [hlac]
    simp [Lac.rebucketed, Load.withBuckets]
  · rw [hdump]
    change (s.addBucket (s.cyt.handed t) t).lac.completed = _
    rw [hlac]
    rfl
  · rw [hdump]
    change (s.addBucket (s.cyt.handed t) t).countCycle.lac.totals = _
    rw [State.countCycle, State.modLac, hlac]
    rfl
  · rw [hdump]
    change { (s.addBucket (s.cyt.handed t) t).cyt with pending := none, marker := false, state := .lower } = _
    rw [hcyt]
  · rw [hdump]
    change (s.addBucket (s.cyt.handed t) t).wen = _
    simp
  · have hlast := State.countCycle_lowered hcyt
    rw [← hdump, hadd, hd] at hlast
    exact hlast

/-! ### A record on a load of 16 -/

theorem State.autoClose_of_full {s : State} (h : s.lac.load.buckets.length = 16) (t : Time) : s.autoClose t =
    (s.afterClosing .auto t (s.loadClosedFrame s.lac.load .auto)).afterAlert 11 15 s.lac.load.number t := by
  have hfull : ¬ s.lac.load.buckets.length < Config.capBuckets := by simp [h, Config.capBuckets]
  rw [State.autoClose, if_neg hfull, State.closeLoadNow_eq, State.raiseAlert_eq]
  rfl

theorem Lac.autoClosed_of_full {a : Lac} (h : a.load.buckets.length = 16) (t : Time) :
    a.autoClosed t = a.closed .auto t :=
  if_neg (by simp [h, Config.capBuckets])

theorem State.evalOverload_keeps {n : Nat} {s : State} (t : Time) (h : s.mgt.alerts.getLsbD n = true) :
    (s.evalOverload t).mgt.alerts.getLsbD n = true := by
  unfold State.evalOverload
  dsimp only
  split
  · split
    · exact h
    · exact State.raiseAlert_keeps (s := State.modLac _ s) .overloadAlert _ t h
  · exact h

/-- Settles O41: the load is closed AUTO, then the record joins the next one. -/
theorem seventeenthBucketClosesTheLoad : Obligations.SeventeenthBucketClosesTheLoad := by
  unfold Obligations.SeventeenthBucketClosesTheLoad
  intro h t s hfull d
  have hnext := State.autoClose_of_full hfull t
  generalize hb : (s.autoClose t).bucketRecord h = b
  have hlacNext : (s.autoClose t).lac = s.lac.closed .auto t := by
    rw [State.autoClose_lac, Lac.autoClosed_of_full hfull]
  have hlac : d.lac = (s.lac.closed .auto t).rebucketed [b] := by
    have := State.addBucket_lac h t s
    rw [hb, Lac.autoClosed_of_full hfull] at this
    exact this
  have hposition : b.position = 1 := by
    rw [← hb]
    change (s.autoClose t).lac.load.buckets.length + 1 = 1
    rw [hlacNext]
    rfl
  have hhanded : b.handed = h := by
    rw [← hb]
    rfl
  have halert : (s.autoClose t).mgt.alerts.getLsbD 11 = true := by
    have hne : ¬ s.lac.load.buckets.length < Config.capBuckets := by simp [hfull, Config.capBuckets]
    rw [State.autoClose, if_neg hne]
    exact State.raiseAlert_latches _ _ _ _
  obtain ⟨g, hg, hd⟩ := (s.autoClose t).appendBucket_evalOverload b t
  have hadd : d = ((s.autoClose t).appendBucket b).evalOverload t := by
    rw [← hb]
    rfl
  have hkept : d.mgt.alerts.getLsbD 11 = true := by
    rw [hadd]
    exact State.evalOverload_keeps t (State.offerE_keeps _ halert)
  rw [hlac, hkept]
  refine ⟨fun hn => ⟨⟨if s.lac.completed.length < 8 then s.lac.completed else s.lac.completed.drop 1, ?_⟩, ?_⟩,
    fun hn => ⟨?_, ?_⟩, ?_, ?_, ?_, rfl, ⟨b, ?_, hhanded, hposition⟩, rfl, ?_,
    s.loadClosedFrame s.lac.load .auto, g, b, s.loadClosedFrame_spec s.lac.load .auto, ?_⟩
  · exact if_neg (Nat.ne_of_lt hn)
  · simp [Lac.rebucketed, Load.withBuckets, Lac.closed, Lac.nextLoad, max32, Nat.ne_of_lt hn]
  · exact if_pos hn
  · simp [Lac.rebucketed, Load.withBuckets, Lac.closed, Lac.nextLoad, max32, hn]
  · simp [Lac.rebucketed, Load.withBuckets, Lac.closed, Lac.nextLoad]
  · simp [Lac.rebucketed, Load.withBuckets, Lac.closed, Lac.nextLoad]
  · simp [Lac.rebucketed, Load.withBuckets, Lac.closed, Lac.nextLoad]
  · simp [Lac.rebucketed, Load.withBuckets]
  · simp [Lac.rebucketed, Lac.closed, Totals.addLoad, MaterialTotals.addLoad, satAdd, max32]
  · have hempty : (s.autoClose t).lac.load.buckets = [] := by
      rw [hlacNext]
      rfl
    have hnode : (s.autoClose t).mgt.node = s.mgt.node := by simp
    rw [hadd, hd]
    rw [hempty, hnode] at hg
    rw [hempty]
    intro next l
    have hstate : s.autoClose t = next := hnext
    rw [hstate] at hg ⊢
    exact ⟨hhanded, hposition, hg, rfl⟩

end Sys2Proof.Machine
end

section
/-! The load commands: CANCEL_LAST, NEXT_TRUCK, SET_TARGET, SET_MATERIAL and SHIFT_CLOSE (R132 to R138). -/
namespace Sys2Proof.Machine

/-- A response joins the responses of its port after work that leaves them and the node alone. -/
theorem State.respond_responses_of {p : Port} {s q : State} (hk : s.keepsResponses p = true)
    (hm : q.cport.m = s.cport.m) (hq : q.mport = s.mport) (hn : q.mgt.node = s.mgt.node) (code tag : Byte)
    (status : Status) (results : List Byte) : (q.respond p code tag status results).responses p =
      s.responses p ++ [responseFrame s.mgt.node code tag status results] := by
  have hk' : q.keepsResponses p = true := by
    cases p with
    | cab => simpa [State.keepsResponses, hm] using hk
    | machine => rfl
  have hr : q.responses p = s.responses p := by
    cases p with
    | cab => simp [State.responses, hm]
    | machine => simp [State.responses, hq]
  rw [State.respond_responses hk', hr, hn]

/-- The evaluation of OVERLOAD sets its flag by the limit (R131). -/
theorem Load.exceeds_iff (l : Load) : l.exceeds = true ↔ l.target ≠ 0 ∧ l.target + l.tolerance < l.total := by
  simp [Load.exceeds]

/-- Settles O42. -/
theorem cancelLastRemovesTheNewest : Obligations.CancelLastRemovesTheNewest := by
  unfold Obligations.CancelLastRemovesTheNewest
  refine fun p tag s hr => ⟨fun h => ?_, fun older b h => ?_⟩
  · rw [exec_request_of_room rfl hr]
    simp only [State.carryOut, State.cmdCancelLast, h, List.getLast?_nil]
  · have hne : s.lac.load.buckets ≠ [] := by simp [h]
    have hlac : (s.cancelLast s.time).lac = s.lac.rebucketed older := by
      rw [State.cancelLast_lac, if_neg hne, h, List.dropLast_concat]
    have hexec : exec (.cancelLast p tag) s = .next ((s.cancelLast s.time).respond p 0x21 tag .ok
        (uField? 2 b.handed.mass ++ leBytes 3 (massSum older))) := by
      rw [exec_request_of_room rfl hr]
      simp only [State.carryOut, State.cmdCancelLast, h, List.getLast?_concat, hlac, Lac.rebucketed,
        Load.evaluated_frame, Load.withBuckets]
    refine ⟨_, hexec, ?_, ?_, ?_, ?_, ?_, ?_, ?_, ?_, ?_, ?_, fun hk => ?_, by simp, by simp, by simp, by simp,
      by simp, ?_⟩
    all_goals try simp only [State.respond_frame, hlac]
    · simp [Lac.rebucketed, Load.withBuckets]
    · simp [Lac.rebucketed, Load.withBuckets]
    · simp [Lac.rebucketed, Load.withBuckets]
    · simp [Lac.rebucketed, Load.withBuckets]
    · simp only [Lac.rebucketed, Load.evaluated_overload, Load.exceeds_iff]
      rfl
    · simp [Lac.rebucketed, Load.withBuckets]
    · simp [Lac.rebucketed, Load.withBuckets]
    · rfl
    · rfl
    · rfl
    · exact State.respond_responses_of hk (by simp) (by simp) (by simp) _ _ _ _
    · rw [State.cancelLast_eq _ _ hne, h, List.dropLast_concat]
      rfl

/-- Settles O43. -/
theorem nextTruckClosesTheLoad : Obligations.NextTruckClosesTheLoad := by
  unfold Obligations.NextTruckClosesTheLoad
  refine fun p tag s hr => ⟨fun h => ?_, fun h => ?_⟩
  · rw [exec_request_of_room rfl hr]
    simp only [State.carryOut, State.cmdNextTruck, if_pos h]
  · have hexec : exec (.nextTruck p tag) s = .next ((s.closeLoadNow .management s.time).respond p 0x22 tag .ok
        (leBytes 2 s.lac.load.number ++ leBytes 3 s.lac.load.total)) := by
      rw [exec_request_of_room rfl hr]
      simp only [State.carryOut, State.cmdNextTruck, if_neg h, State.nextTruck]
    refine ⟨_, hexec, fun hn => ⟨_, ?_, rfl⟩, fun hn => ?_, ?_, ?_, ?_, ?_, fun k hk => ?_, ?_, fun hk => ?_, by simp,
      by simp, by simp, by simp, by simp, s.loadClosedFrame s.lac.load .management,
      s.loadClosedFrame_spec s.lac.load .management, by rw [State.closeLoadNow_eq]⟩
    all_goals try simp only [State.respond_frame, State.closeLoadNow_lac]
    · exact if_neg hn
    · exact if_pos hn
    · rfl
    · rfl
    · rfl
    · simp [Lac.closed, Totals.addLoad, MaterialTotals.addLoad, satAdd, max32]
    · simp only [Lac.closed, Totals.addLoad]
      exact Vector.getElem_set_ne _ _ fun he => hk (Fin.ext he.symm)
    · rfl
    · exact State.respond_responses_of hk (by simp) (by simp) (by simp) _ _ _ _

/-- A used material's index names it (R136). -/
theorem Lac.usedMaterial_of_used {a : Lac} {k : Fin 16} (h : a.materials[k] ≠ 0) :
    a.usedMaterial (BitVec.ofNat 8 k.val).toNat = some k := by
  have hk : (BitVec.ofNat 8 k.val).toNat = k.val := by
    have hlt := k.isLt
    rw [BitVec.toNat_ofNat]
    omega
  rw [hk, Lac.usedMaterial, dif_pos k.isLt]
  exact if_pos h

theorem Lac.usedMaterial_of_unused {a : Lac} {i : Nat} (h : ∀ hi : i < 16, a.materials[i] = 0) :
    a.usedMaterial i = none := by
  unfold Lac.usedMaterial
  split
  · rename_i hi
    exact if_neg (not_not.2 (h hi))
  · rfl

/-- Settles O44. -/
theorem targetMaterialAndShiftAreSet : Obligations.TargetMaterialAndShiftAreSet := by
  unfold Obligations.TargetMaterialAndShiftAreSet
  refine fun p tag s hr => ⟨fun target tolerance ht hl => ?_, fun target tolerance h => ?_, fun k hk hb => ?_,
    fun k hk hb => ?_, fun index h => ?_, Totals.zero s.time, fun k => ?_, rfl, rfl, rfl, rfl, ?_⟩
  · have hok : targetOk target.toNat tolerance.toNat = true := by simp [targetOk, ht, hl]
    have hexec : exec (.setTarget p tag target tolerance) s = .next (((s.modLac fun a =>
        a.withTarget target.toNat tolerance.toNat).evalOverload s.time).respond p 0x24 tag .ok []) := by
      rw [exec_request_of_room rfl hr]
      simp only [State.carryOut, State.cmdSetTarget, if_pos hok]
    refine ⟨_, hexec, ?_, ?_, ?_, ?_, ?_, ?_, ?_, fun hk => ?_, by simp, by simp, by simp, by simp, by simp, ?_⟩
    all_goals try simp only [State.respond_frame, State.evalOverload_lac]
    · rfl
    · rfl
    · simp [Lac.withTarget]
    · simp [Lac.withTarget]
    · rw [Load.evaluated_overload, Load.exceeds_iff]
      rfl
    · simp [Lac.withTarget]
    · rfl
    · exact State.respond_responses_of hk (by simp) (by simp) (by simp) _ _ _ _
    · rw [State.evalOverload_eq]
      rfl
  · have hbad : ¬ targetOk target.toNat tolerance.toNat = true := by
      simp only [targetOk, Bool.and_eq_true, decide_eq_true_eq]
      omega
    rw [exec_request_of_room rfl hr]
    simp only [State.carryOut, State.cmdSetTarget, if_neg hbad]
  · rw [exec_request_of_room rfl hr]
    simp only [State.carryOut, State.cmdSetMaterial, Lac.usedMaterial_of_used hk, Lac.chooseMaterial, Lac.materialCase,
      State.modLac, if_pos hb]
    rfl
  · rw [exec_request_of_room rfl hr]
    simp only [State.carryOut, State.cmdSetMaterial, Lac.usedMaterial_of_used hk, Lac.chooseMaterial, Lac.materialCase,
      State.modLac, if_neg hb]
    rfl
  · rw [exec_request_of_room rfl hr]
    simp only [State.carryOut, State.cmdSetMaterial, Lac.usedMaterial_of_unused h]
  · simp [Totals.zero, MaterialTotals.zero]
  · rw [exec_request_of_room rfl hr]
    rfl

end Sys2Proof.Machine
end

section
/-! Calibration runs: the test points and the breaks (R88 to R96). -/
namespace Sys2Proof.Machine

/-! ### Point sums -/

/-- Values added from an index on, read at an index of the sums. -/
theorem addFrom_getD_of_lt {xs : List Int} {i : Nat} (h : i < xs.length) (k : Nat) (vs : List Int) :
    (addFrom xs k vs).getD i 0 = xs.getD i 0 + if k ≤ i then vs.getD (i - k) 0 else 0 := by
  induction xs generalizing k vs i with
  | nil => simp at h
  | cons x xs ih =>
    cases vs with
    | nil => simp [addFrom]
    | cons v vs =>
      cases i with
      | zero => cases k <;> simp [addFrom]
      | succ i =>
        have hi : i < xs.length := Nat.lt_of_succ_lt_succ h
        cases k with
        | zero => simpa [addFrom] using ih hi 0 vs
        | succ k => simpa [addFrom] using ih hi k (v :: vs)

/-! ### Test points -/

/-- A state after a HEAD sample of a calibration: the latest F and θ_eff noted, and the calibration as it is left. -/
def State.noted (s : State) (c : Calibration) (t : Time) : State :=
  { s with wen := { s.wen with calibration := some c, latest := match s.force with
    | some f => some ⟨f, s.thetaEff, t⟩
    | none => s.wen.latest } }

theorem State.noteLatest_eq {s : State} {c : Calibration} (h : s.wen.calibration = some c) (t : Time) :
    s.noteLatest t = s.noted c t := by
  unfold State.noteLatest State.noted
  rw [← h]
  cases s.force <;> rfl

theorem State.noted_sampleInputs (s : State) (c : Calibration) (t : Time) :
    (s.noted c t).sampleInputs = s.sampleInputs := rfl

theorem State.noted_omega (s : State) (c : Calibration) (t : Time) : (s.noted c t).sig.omega = s.sig.omega := rfl

theorem State.noted_setCal (s : State) (c c' : Calibration) (t : Time) : (s.noted c t).setCal c' = s.noted c' t := rfl

section
variable {s : State} {r : MachineRecord} {c : Calibration}

theorem State.calPoint_head (hm : s.mgt.mode = .calibrate) (hp : s.din.power = .running) (hr : s.wen.record = some r)
    (hc : s.wen.calibration = some c) (t : Time) : s.calPoint true t = (s.noted c t).calHead r c t := by
  simp only [State.calPoint, hm, hp, and_self, if_true, hr, hc, State.noteLatest_eq hc]

theorem State.calPoint_boom (hm : s.mgt.mode = .calibrate) (hp : s.din.power = .running) (hr : s.wen.record = some r)
    (hc : s.wen.calibration = some c) (t : Time) : s.calPoint false t = s.calBoom r c t := by
  simp [State.calPoint, hm, hp, hr, hc]

end

/-- The speed tests fail without a speed or above the limit (R89). -/
theorem speedFault_eq_none {r : MachineRecord} {om : Int} (h : om ≤ r.calSpeed) : speedFault r (some om) = none :=
  if_neg (Int.not_lt.2 h)

theorem speedFault_of_fast {r : MachineRecord} {om : Int} (h : r.calSpeed < om) :
    speedFault r (some om) = some .speed :=
  if_pos h

theorem reversed_iff (r : MachineRecord) (highest th : Int) :
    reversed r highest th = true ↔ th ≤ max highest th - r.h := by simp [reversed]

/-- Settles O45: a HEAD point works on the state with its sample noted, a BOOM point on the state as it is. -/
theorem calibrationRunsRiseAndBreak : Obligations.CalibrationRunsRiseAndBreak := by
  unfold Obligations.CalibrationRunsRiseAndBreak
  refine ⟨fun isHead t s h => ?_, fun t r c s hm hp hr hc => ?_, fun reason t s => ⟨fun hc => ?_, fun c hc => ?_⟩⟩
  · refine if_neg ?_
    rintro ⟨hm, hp⟩
    simp [hm, hp] at h
  · intro put sampled
    have hhead := State.calPoint_head hm hp hr hc t
    have hboom := State.calPoint_boom hm hp hr hc t
    have hnoted : sampled c.run = s.noted c t := rfl
    refine ⟨fun start hrun => ⟨?_, fun h => ?_, fun f th om hf hth hom hle => ?_⟩,
      fun th0 f0 highest values hrun => ⟨fun h => ?_, fun h => ?_, fun th hth => ?_⟩⟩
    · rw [hboom]
      simp only [State.calBoom, hrun]
    · rw [hhead]
      simp only [State.calHead, hrun, State.noted_sampleInputs, State.noted_omega]
      split
      · rename_i hinputs hfault
        exfalso
        rcases h with h | h | h | ⟨om, h, hfast⟩
        · simp [State.sampleInputs_eq_none (.inl h)] at hinputs
        · simp [State.sampleInputs_eq_none (.inr h)] at hinputs
        · simp [h, speedFault] at hfault
        · simp [h, speedFault_of_fast hfast] at hfault
      · rfl
    · have hstep : s.calPoint true t = (s.noted c t).armedSample r c start th f t := by
        rw [hhead]
        simp only [State.calHead, hrun, State.noted_sampleInputs, State.noted_omega,
          State.sampleInputs_eq_some hf hth, hom, speedFault_eq_none hle]
      rw [hstep]
      refine ⟨fun hs hlt => ?_, fun hs hle => ?_, fun th0 f0 hs => ⟨fun hle => ?_, fun hlt => ?_⟩⟩
      · subst hs
        simp only [State.armedSample, if_pos hlt]
        rfl
      · subst hs
        simp only [State.armedSample, if_neg (Int.not_lt.2 hle)]
        rw [← hnoted, hrun]
      · subst hs
        simp only [State.armedSample, if_neg (Int.not_lt.2 hle)]
        rfl
      · rw [← hrun, hnoted, hs]
        simp only [State.armedSample, if_pos hlt]
    · rw [hhead, hnoted]
      simp only [State.calHead, hrun, State.noted_sampleInputs, State.sampleInputs_eq_none h]
    · rw [hboom]
      simp only [State.calBoom, hrun, h]
    · intro top
      have hboom' : s.calPoint false t = match speedFault r s.sig.omega with
          | some reason => s.breakRun reason t
          | none => if reversed r highest th then s.breakRun .reversed t
            else s.setCal { c with run := .rising th0 f0 top values } := by
        rw [hboom]
        simp only [State.calBoom, hrun, hth]
        rfl
      have hhead' {f : Int} (hf : s.force = some f) : s.calPoint true t = match speedFault r s.sig.omega with
          | some reason => (sampled c.run).breakRun reason t
          | none => if reversed r highest th then (sampled c.run).breakRun .reversed t
            else (sampled c.run).capturePoints r c th0 f0 top values th f t := by
        rw [hhead, hnoted]
        simp only [State.calHead, hrun, State.noted_sampleInputs, State.sampleInputs_eq_some hf hth, State.noted_omega]
        rfl
      refine ⟨fun hom => ⟨?_, fun hf => ?_⟩, fun om hom => ⟨fun hfast => ⟨?_, fun hf => ?_⟩,
        fun hle hrev => ⟨?_, fun hf => ?_⟩, fun hle hrev => ⟨?_, fun f hf => ?_⟩⟩⟩
      · rw [hboom', hom]
        rfl
      · obtain ⟨f, hf⟩ := Option.ne_none_iff_exists'.1 hf
        rw [hhead' hf, hom]
        rfl
      · rw [hboom', hom, speedFault_of_fast hfast]
      · obtain ⟨f, hf⟩ := Option.ne_none_iff_exists'.1 hf
        rw [hhead' hf, hom, speedFault_of_fast hfast]
      · rw [hboom', hom, speedFault_eq_none hle]
        exact if_pos ((reversed_iff r highest th).2 hrev)
      · obtain ⟨f, hf⟩ := Option.ne_none_iff_exists'.1 hf
        rw [hhead' hf, hom, speedFault_eq_none hle]
        exact if_pos ((reversed_iff r highest th).2 hrev)
      · rw [hboom', hom, speedFault_eq_none hle]
        exact if_neg (mt (reversed_iff r highest th).1 (Int.not_le.2 hrev))
      · rw [hhead' hf, hom, speedFault_eq_none hle]
        exact if_neg (mt (reversed_iff r highest th).1 (Int.not_le.2 hrev))
  · simp only [State.interruptRun, hc]
  · refine ⟨fun start hrun => ?_, fun th f top values hrun => ⟨?_, addFrom c.sums 0 (values.map fun v => -v),
      addFrom_length _ _ _, fun i hi => ?_, ?_⟩⟩
    · simp only [State.interruptRun, hc, hrun]
      rfl
    · simp only [State.interruptRun, hc, hrun]
    · rw [addFrom_length] at hi
      rw [addFrom_getD_of_lt hi, if_pos (Nat.zero_le i), Nat.sub_zero, getD_map_neg, ← sub_eq_add_neg]
    · simp only [State.breakRun, hc, hrun]
      rfl

end Sys2Proof.Machine
end

section
/-! ## Which frames channel E is offered (R97, R142, R155, R163, R200, R202) -/
namespace Sys2Proof.Machine

/-- From `s` to `t` the cab port changes by these offers to channel E, in this order, and by nothing else. -/
def State.Offered (s t : State) (fs : List Frame) : Prop :=
  t.cport = { s.cport with e := { s.cport.e with queue := s.cport.e.afterOffers fs } }

/-- A display frame is written under the node. -/
theorem State.displayFrame_congr {s t : State} (h : t.mgt.node = s.mgt.node) (kind : Nat) (fields : List (Nat × Nat)) :
    t.displayFrame kind fields = s.displayFrame kind fields := by
  simp only [State.displayFrame, h]

/-- The NOTICE frame of a change of mode. -/
def State.modeNotice (s : State) (new old : Mode) (cal : Option (CurveName × Nat)) (cause : NoticeCause) (t : Time) :
    Frame :=
  s.displayFrame 6 [(2, 0), (2, new.code), (2, old.code), (2, cause.code),
    (1, (cal.map fun x => x.1.code).getD 0), (3, (cal.map fun x => x.2).getD 0), (12, 0), (32, t.toNat)]

theorem State.noticeMode_eq (new old : Mode) (cal : Option (CurveName × Nat)) (cause : NoticeCause) (t : Time)
    (s : State) : s.noticeMode new old cal cause t = s.offerE (s.modeNotice new old cal cause t) := by
  cases cal <;> rfl

/-- The CAL_PROGRESS frame. -/
def State.progressFrame (s : State) (target : CurveName) (run points : Nat) (o : ProgressOutcome) (t : Time) : Frame :=
  s.displayFrame 5 [(1, target.code), (2, o.code), (3, run), (3, o.reasonField), (5, points), (3, o.stateField), (7, 0),
    (32, t.toNat)]

/-- A state whose mode has changed, before its NOTICE (R200). -/
def State.moded (s : State) (m : ModeTarget) : State :=
  { s with
    wen := { s.wen with
      prevTheta := if m.mode = .run then none else s.wen.prevTheta
      tareArmed := if s.mgt.mode = .run ∧ m.mode ≠ .run then false else s.wen.tareArmed
      latest := none, calibration := m.calibration s.wen.gridPoints }
    cyt := if s.mgt.mode = .run ∧ m.mode ≠ .run then s.cyt.toIdle
      else if m.mode = .run then { s.cyt with tipArmed := false } else s.cyt
    mgt := { s.mgt with mode := m.mode } }

/-- A change of mode: the blocks take it, and then its NOTICE is offered (R200). -/
theorem State.changeMode_eq (m : ModeTarget) (cause : NoticeCause) (t : Time) (s : State) :
    s.changeMode m cause t = (s.moded m).offerE (s.modeNotice m.mode s.mgt.mode m.cal cause t) := by
  unfold State.changeMode
  dsimp only
  rw [State.noticeMode_eq]
  by_cases hold : s.mgt.mode = .run <;> by_cases hnew : m.mode = .run <;>
    simp only [State.moded, hold, hnew, ne_eq, not_true_eq_false, not_false_eq_true, and_true, and_false,
      if_true, if_false] <;> rfl

/-- An offer to E changes the cab port and the alert flags alone. -/
theorem State.offerE_shape (f : Frame) (s : State) : s.offerE f =
    { s with cport := (s.offerE f).cport, mgt := { s.mgt with alerts := (s.offerE f).mgt.alerts } } := by
  unfold State.offerE
  split
  · rfl
  · split <;> rfl

namespace State.Offered
variable {s t u : State} {fs : List Frame}

theorem refl (s : State) : s.Offered s [] := by
  rw [State.Offered, ChannelState.afterOffers_nil]

/-- The cab port of both states goes over to states that agree with them in it. -/
theorem congr (h : s.Offered t fs) {s' t' : State} (hs : s'.cport = s.cport) (ht : t'.cport = t.cport) :
    s'.Offered t' fs := by
  rw [State.Offered, hs, ht]
  exact h

theorem queue (h : s.Offered t fs) : t.cport.e.queue = s.cport.e.afterOffers fs := by rw [h]

theorem cport (h : s.Offered t fs) : t.cport = { s.cport with e := { s.cport.e with queue := t.cport.e.queue } } := by
  rw [h]

theorem offerE (h : s.Offered t fs) (f : Frame) : s.Offered (t.offerE f) (fs ++ [f]) := by
  rw [State.Offered, State.offerE_queue, h, ← ChannelState.afterOffers_append]

/-- A raise offers its ALERT frame by its mask bit (R202). -/
theorem raiseSub (h : s.Offered t fs) (hn : t.mgt.node = s.mgt.node) (hm : t.mgt.mask = s.mgt.mask) (a : Alert)
    (sub detail : Nat) (x : Time) : s.Offered (t.raiseSub a sub detail x)
      (fs ++ if s.mgt.mask.getLsbD a.code then [s.alertFrame a sub detail x] else []) := by
  unfold State.raiseSub
  rw [hm]
  split
  · rw [State.alertFrame, State.alertFrame, State.displayFrame_congr hn]
    exact State.Offered.offerE (t := t.latch a) h _
  · rw [List.append_nil]
    exact h

theorem raiseAlert (h : s.Offered t fs) (hn : t.mgt.node = s.mgt.node) (hm : t.mgt.mask = s.mgt.mask) (a : Alert)
    (detail : Nat) (x : Time) : s.Offered (t.raiseAlert a detail x)
      (fs ++ if s.mgt.mask.getLsbD a.code then [s.alertFrame a 15 detail x] else []) :=
  h.raiseSub hn hm a 15 detail x

theorem progress (h : s.Offered t fs) (hn : t.mgt.node = s.mgt.node) (target : CurveName) (run points : Nat)
    (o : ProgressOutcome) (x : Time) :
    s.Offered (t.progress target run points o x) (fs ++ [s.progressFrame target run points o x]) := by
  rw [State.progressFrame, ← State.displayFrame_congr hn]
  exact h.offerE _

/-- A change of mode offers its NOTICE (R200). -/
theorem changeMode (h : s.Offered t fs) (hn : t.mgt.node = s.mgt.node) (m : ModeTarget) (cause : NoticeCause)
    (x : Time) : s.Offered (t.changeMode m cause x) (fs ++ [s.modeNotice m.mode t.mgt.mode m.cal cause x]) := by
  rw [State.changeMode_eq, State.modeNotice, State.modeNotice, State.displayFrame_congr hn]
  exact State.Offered.offerE (t := t.moded m) h _

end State.Offered

end Sys2Proof.Machine
end

section
/-! Point capture and the completion of a calibration (R92 to R94, R98). -/
namespace Sys2Proof.Machine

/-! ### Capture -/

/-- The values of a function on the first numbers, taken while a test holds, end at the first number that fails it. -/
theorem takeWhile_map_range {α : Type} (p : α → Bool) (f : Nat → α) (m : Nat) :
    ∃ j, j ≤ m ∧ ((List.range m).map f).takeWhile p = (List.range j).map f ∧ (∀ i < j, p (f i) = true) ∧
      (j < m → p (f j) = false) := by
  induction m generalizing f with
  | zero => exact ⟨0, le_rfl, rfl, fun i hi => absurd hi (Nat.not_lt_zero i), fun h => absurd h (Nat.lt_irrefl 0)⟩
  | succ m ih =>
    have hcons : (List.range (m + 1)).map f = f 0 :: (List.range m).map (f ∘ Nat.succ) := by
      rw [List.range_succ_eq_map, List.map_cons, List.map_map]
    rw [hcons]
    by_cases hp : p (f 0) = true
    · obtain ⟨j, hj, htake, hall, hstop⟩ := ih (f ∘ Nat.succ)
      refine ⟨j + 1, Nat.succ_le_succ hj, ?_, fun i hi => ?_, fun h => hstop (Nat.lt_of_succ_lt_succ h)⟩
      · rw [List.takeWhile_cons_of_pos hp, htake, List.range_succ_eq_map, List.map_cons, List.map_map]
      · cases i with
        | zero => exact hp
        | succ i => exact hall i (Nat.lt_of_succ_lt_succ hi)
    · refine ⟨0, Nat.zero_le _, List.takeWhile_cons_of_neg hp, fun i hi => absurd hi (Nat.not_lt_zero i), fun _ => ?_⟩
      exact Bool.eq_false_iff.2 hp

/-- What a sample captures: the values at the grid angles from the next point on that it reaches (R92). -/
theorem MachineRecord.captures_eq (r : MachineRecord) (k : Nat) (th0 f0 th1 f1 : Int) :
    ∃ j, r.captures k th0 f0 th1 f1 = (List.range j).map (fun i => r.captureValue th0 f0 th1 f1 (k + i)) ∧
      (∀ i < j, k + i < r.n ∧ r.gridAngle (k + i) ≤ th1) ∧ (k + j < r.n → th1 < r.gridAngle (k + j)) := by
  obtain ⟨j, hj, htake, hall, hstop⟩ :=
    takeWhile_map_range (fun i => decide (r.gridAngle i ≤ th1)) (k + ·) (r.n - k)
  refine ⟨j, ?_, fun i hi => ⟨by omega, of_decide_eq_true (hall i hi)⟩, fun h => ?_⟩
  · rw [MachineRecord.captures, MachineRecord.captured, htake, List.map_map]
    rfl
  · exact Int.not_le.1 (of_decide_eq_false (hstop (by omega)))

/-! ### Validation -/

/-- The validation of two curves passes when they lie far enough apart at every point (R50). -/
theorem spreadFailure_eq_none {es ls : List Int}
    (h : ∀ i, i < es.length → i < ls.length → 50 ≤ ls.getD i 0 - es.getD i 0) (k : Nat) :
    spreadFailure k es ls = none := by
  induction es generalizing k ls with
  | nil => rfl
  | cons e es ih =>
    cases ls with
    | nil => rfl
    | cons l ls =>
      have hfirst : 50 ≤ l - e := by simpa using h 0 (Nat.succ_pos _) (Nat.succ_pos _)
      rw [spreadFailure, if_neg (Int.not_lt.2 hfirst)]
      refine ih (fun i hi hl => ?_) (k + 1)
      simpa using h (i + 1) (Nat.succ_lt_succ hi) (Nat.succ_lt_succ hl)

/-- The validation fails at the first point where they do not. -/
theorem spreadFailure_eq_some {es ls : List Int} {i : Nat} (hi : i < es.length) (hl : i < ls.length)
    (hgap : ls.getD i 0 - es.getD i 0 < 50) (hfirst : ∀ j, j < i → 50 ≤ ls.getD j 0 - es.getD j 0) (k : Nat) :
    spreadFailure k es ls = some (k + i) := by
  induction es generalizing k ls i with
  | nil => simp at hi
  | cons e es ih =>
    cases ls with
    | nil => simp at hl
    | cons l ls =>
      cases i with
      | zero => rw [spreadFailure, if_pos (by simpa using hgap), add_zero]
      | succ i =>
        have hhead : 50 ≤ l - e := by simpa using hfirst 0 (Nat.succ_pos _)
        rw [spreadFailure, if_neg (Int.not_lt.2 hhead), ih (Nat.lt_of_succ_lt_succ hi) (Nat.lt_of_succ_lt_succ hl)
          (by simpa using hgap) (fun j hj => by simpa using hfirst (j + 1) (Nat.succ_lt_succ hj)) (k + 1)]
        congr 1
        omega

/-! ### Completion -/

/-- A curve written raises CAL_INVALID where the validation fails, and offers nothing else (R51). -/
theorem State.Offered.writeCurve {s t : State} {fs : List Frame} (h : s.Offered t fs) (hn : t.mgt.node = s.mgt.node)
    (hm : t.mgt.mask = s.mgt.mask) (c : CurveName) (v : List Int) (x : Time) :
    s.Offered (t.writeCurve c v x) (fs ++ match (t.wen.setCurve c v).validation with
      | some i => if s.mgt.mask.getLsbD 9 then [s.alertFrame .calInvalid 15 i x] else []
      | none => []) := by
  unfold State.writeCurve
  dsimp only
  have hwen : (t.modWen fun w => w.setCurve c v).wen = t.wen.setCurve c v := rfl
  rw [hwen]
  cases (t.wen.setCurve c v).validation with
  | some i => exact State.Offered.raiseAlert (t := t.modWen fun w => w.setCurve c v) h hn hm .calInvalid i x
  | none =>
    rw [List.append_nil]
    exact h

theorem State.writeCurve_latches {c : CurveName} {v : List Int} {t : Time} {s : State} {i : Nat}
    (h : (s.wen.setCurve c v).validation = some i) : (s.writeCurve c v t).mgt.alerts.getLsbD 9 = true := by
  have hwen : (s.modWen fun w => w.setCurve c v).wen = s.wen.setCurve c v := rfl
  unfold State.writeCurve
  dsimp only
  rw [hwen, h]
  exact State.raiseAlert_latches .calInvalid _ _ _

/-- A state after its last run has been counted DONE and its curve written. -/
def State.calWritten (s : State) (c : Calibration) (points : Nat) (t : Time) : State :=
  ((s.setCal { c with done := c.done + 1, run := .armed none }).progress c.target (c.done + 1) points .done
    t).writeCurve
    c.target c.averages t

/-- The last run makes the curve, offers COMPLETE and changes the mode (R98). -/
theorem State.runDone_last {c : Calibration} (h : c.runs ≤ c.done + 1) (points : Nat) (t : Time) (s : State) :
    s.runDone c points t = ((s.calWritten c points t).progress c.target c.runs points
      (.complete (s.calWritten c points t).wen.curveState) t).changeMode .config .completion t := by
  rw [State.runDone, if_neg (Nat.not_lt.2 h)]
  rfl

theorem State.calWritten_wen (s : State) (c : Calibration) (points : Nat) (t : Time) :
    (s.calWritten c points t).wen = { s.wen with
      curveE := if c.target = .empty then some c.averages else s.wen.curveE
      curveL := if c.target = .reference then some c.averages else s.wen.curveL
      calibration := some { c with done := c.done + 1, run := .armed none } } := by
  rw [State.calWritten, State.writeCurve_wen, (State.progress_frame _ _ _ _ _ _).2.2.2.2.2.2.1]
  cases c.target <;> rfl

/-- The curve state of two present curves (R49). -/
theorem Wen.curveState_of_some {w : Wen} {e l : List Int} (he : w.curveE = some e) (hl : w.curveL = some l) :
    w.curveState = if spreadFailure 0 e l = none then .valid else .invalid := by
  simp only [Wen.curveState, he, hl]

theorem Wen.validation_of_some {w : Wen} {e l : List Int} (he : w.curveE = some e) (hl : w.curveL = some l) :
    w.validation = spreadFailure 0 e l := by
  simp only [Wen.validation, he, hl]

section
variable {s : State} {c : Calibration} (points : Nat) (t : Time)

/-- The frames of the last run on E: DONE, CAL_INVALID where the validation fails, COMPLETE and the NOTICE. -/
theorem State.runDone_offered (h : c.runs ≤ c.done + 1) (hm : s.mgt.mode = .calibrate) {w : Wen}
    (hw : (s.calWritten c points t).wen = w) : s.Offered (s.runDone c points t)
      ([s.progressFrame c.target (c.done + 1) points .done t] ++
        (match w.validation with
          | some i => if s.mgt.mask.getLsbD 9 then [s.alertFrame .calInvalid 15 i t] else []
          | none => []) ++
        [s.progressFrame c.target c.runs points (.complete w.curveState) t,
         s.modeNotice .config .calibrate none .completion t]) := by
  have hset : s.Offered (s.setCal { c with done := c.done + 1, run := .armed none }) [] := State.Offered.refl s
  have hdone := hset.progress rfl c.target (c.done + 1) points .done t
  have hwritten := hdone.writeCurve (by simp) (by simp) c.target c.averages t
  rw [← State.writeCurve_wen _ _ t] at hwritten
  have hnode : (s.calWritten c points t).mgt.node = s.mgt.node := by simp [State.calWritten]
  have hmode : ((s.calWritten c points t).progress c.target c.runs points (.complete w.curveState) t).mgt.mode =
      .calibrate := by simp [State.calWritten, hm]
  have hcomplete := State.Offered.progress (t := s.calWritten c points t) hwritten hnode c.target c.runs points
    (.complete w.curveState) t
  have hall := hcomplete.changeMode (by simpa using hnode) .config .completion t
  rw [hmode, List.append_assoc] at hall
  rw [State.runDone_last h, hw]
  subst hw
  exact hall

end

/-- MGT after a change of its mode and its alert flags alone. -/
theorem Mgt.eq_of_frame {m m' : Mgt} {mode : Mode} (hmode : m'.mode = mode) (hd : m'.deferred = m.deferred)
    (ha : m'.assembly = m.assembly) (hm : m'.mask = m.mask) (hn : m'.node = m.node) :
    m' = { m with mode := mode, alerts := m'.alerts } := by
  subst hmode
  rw [← hd, ← ha, ← hm, ← hn]

/-- A state after work on WEN, CYT, CPORT and MGT alone. -/
theorem State.eq_of_frame {s d : State} (htime : d.time = s.time) (hbaud : d.baud = s.baud) (hmport : d.mport = s.mport)
    (hfcl : d.fcl = s.fcl) (hsig : d.sig = s.sig) (hdin : d.din = s.din) (hlac : d.lac = s.lac)
    (hfree : d.freeCount = s.freeCount) (hpending : d.pending = s.pending) :
    d = { s with wen := d.wen, cyt := d.cyt, cport := d.cport, mgt := d.mgt } := by
  rw [← htime, ← hbaud, ← hmport, ← hfcl, ← hsig, ← hdin, ← hlac, ← hfree, ← hpending]

/-- Settles O46. -/
theorem calibrationCapturesAndCompletes : Obligations.CalibrationCapturesAndCompletes := by
  unfold Obligations.CalibrationCapturesAndCompletes
  refine ⟨fun r c th0 f0 top values th1 f1 t s => ?_, fun c points t s => ?_⟩
  · intro k angle
    obtain ⟨j, hcaptures, hall, hstop⟩ := r.captures_eq k th0 f0 th1 f1
    have hlen : (r.captures k th0 f0 th1 f1).length = j := by simp [hcaptures]
    have hvalue {i : Nat} (hi : i < j) : (r.captures k th0 f0 th1 f1).getD i 0 =
        r.captureValue th0 f0 th1 f1 (k + i) := by
      simp [hcaptures, List.getD_eq_getElem?_getD, hi]
    refine ⟨r.captures k th0 f0 th1 f1, addFrom c.sums k (r.captures k th0 f0 th1 f1), fun i hi => ?_, ?_,
      addFrom_length _ _ _, fun i hi => ?_, ?_⟩
    · rw [hlen] at hi
      obtain ⟨hn, hangle⟩ := hall i hi
      refine ⟨hn, hangle, ?_⟩
      rw [hvalue hi, MachineRecord.captureValue, clamp_eq (by decide)]
      rfl
    · rw [hlen]
      exact hstop
    · rw [addFrom_length] at hi
      rw [addFrom_getD_of_lt hi, hlen]
      congr 1
      by_cases hk : k ≤ i
      · by_cases hj : i < k + j
        · rw [if_pos hk, if_pos ⟨hk, hj⟩]
        · rw [if_pos hk, if_neg (fun h => hj h.2), List.getD_eq_default _ _ (by omega)]
      · rw [if_neg hk, if_neg (fun h => hk h.1)]
    · intro c'
      have hcapture : s.capturePoints r c th0 f0 top values th1 f1 t =
          if r.n ≤ k + (r.captures k th0 f0 th1 f1).length then s.runDone c' r.n t else s.setCal c' := by
        rw [State.capturePoints, ← List.length_append]
      rw [hcapture]
      exact ⟨fun h => if_neg (Nat.not_le.2 h), fun h => if_pos h⟩
  · intro d done
    refine ⟨fun h => if_pos h, fun h hm => ⟨c.averages, by simp [Calibration.averages], fun i hi => ?_, ?_, ?_, ?_, ?_,
        ?_⟩⟩
    · simp only [Calibration.averages, List.length_map] at hi
      simp [Calibration.averages, List.getD_eq_getElem?_getD, hi]
    all_goals
      have hd : d = _ := State.runDone_last h points t s
      have hwen := s.calWritten_wen c points t
      have hmode : (s.calWritten c points t).mgt.mode = .calibrate := by simp [State.calWritten, hm]
    · rw [hd, State.changeMode_wen]
      simp [hwen, hmode, ModeTarget.mode, ModeTarget.calibration]
    · refine Mgt.eq_of_frame ?_ (by simp [d]) (by simp [d]) (by simp [d]) (by simp [d])
      rw [hd]
      exact State.changeMode_mode _ _ _ _
    · exact (State.runDone_offered points t h hm rfl).cport
    · have hcyt : d.cyt = s.cyt := by
        rw [hd, State.changeMode_cyt]
        simp [State.calWritten, hm, ModeTarget.mode]
      have hframe : d = _ := State.eq_of_frame (s := s) (d := d) (by simp [d]) (by simp [d]) (by simp [d]) (by simp [d])
        (by simp [d]) (by simp [d]) (by simp [d]) (by simp [d]) (by simp [d])
      rw [hcyt] at hframe
      exact hframe
    · intro complete other
      generalize hw : (s.calWritten c points t).wen = w at hwen
      have hqueue : d.cport.e.queue = _ := (State.runDone_offered points t h hm hw).queue
      have hlatch {i : Nat} (hi : w.validation = some i) : d.mgt.alerts.getLsbD 9 = true := by
        rw [← hw, State.calWritten, State.writeCurve_wen] at hi
        rw [hd]
        exact State.changeMode_keeps _ _ _ (State.offerE_keeps _ (State.writeCurve_latches hi))
      refine ⟨fun hother => ?_, fun o hother hlen => ?_⟩
      · have hvalid : w.validation = none ∧ w.curveState.code = if c.target = .empty then 1 else 2 := by
          simp only [other] at hother
          cases hc : c.target <;> simp [hc] at hother <;> simp [hwen, hc, hother, Wen.validation, Wen.curveState,
            CurveState.code]
        rw [hqueue, hvalid.1, List.append_nil]
        simp only [complete, ← hvalid.2]
        rfl
      · intro gap
        obtain ⟨e, l, he, hl, hlenE, hlenL, hgap⟩ : ∃ e l : List Int, w.curveE = some e ∧ w.curveL = some l ∧
            e.length = c.averages.length ∧ l.length = c.averages.length ∧ ∀ i, gap i = l.getD i 0 - e.getD i 0 := by
          simp only [other] at hother
          cases hc : c.target with
          | empty => exact ⟨c.averages, o, by simp [hwen, hc], by simpa [hwen, hc] using hother, rfl, hlen,
              fun i => by simp [gap, hc]⟩
          | reference => exact ⟨o, c.averages, by simpa [hwen, hc] using hother, by simp [hwen, hc], hlen, rfl,
              fun i => by simp [gap, hc]⟩
        have hvalidation := Wen.validation_of_some he hl
        have hstate := Wen.curveState_of_some he hl
        refine ⟨fun hall => ?_, fun i hi hlt hfirst => ?_⟩
        · have hnone : spreadFailure 0 e l = none :=
            spreadFailure_eq_none (fun i hi _ => (hgap i).symm ▸ hall i (hlenE ▸ hi)) 0
          rw [hnone] at hvalidation hstate
          rw [hqueue, hvalidation, hstate, List.append_nil]
          rfl
        · have hsome : spreadFailure 0 e l = some i := by
            have := spreadFailure_eq_some (hlenE ▸ hi) (hlenL ▸ hi) (hgap i ▸ hlt)
              (fun j hj => hgap j ▸ hfirst j hj) 0
            rwa [Nat.zero_add] at this
          rw [hsome] at hvalidation hstate
          refine ⟨hlatch hvalidation, ?_⟩
          rw [hqueue, hvalidation, hstate]
          rfl

end Sys2Proof.Machine
end

section
/-! Changes of mode: a deferred one applied, and SET_MODE (R85, R198 to R201). -/
namespace Sys2Proof.Machine

/-! ### A deferred change -/

theorem State.applyDeferred_of_waiting {s : State} (h : s.mgt.deferred = none ∨ s.wen.window.isSome = true) (t : Time) :
    s.applyDeferred t = s := by
  rcases State.applyDeferred_cases t s with ⟨-, he⟩ | ⟨hw, d, hd, -⟩
  · exact he
  · simp [hw, hd] at h

/-- A deferred change whose conditions hold is removed and made once the window is NONE (R199). -/
theorem State.applyDeferred_of_ready {s : State} {d : Deferred} (hd : s.mgt.deferred = some d)
    (hw : s.wen.window = none) (hb : d = .config ∨ s.calibrateBlock = none) (t : Time) :
    s.applyDeferred t = (s.setDeferred none).changeMode d.target .deferred t := by
  unfold State.applyDeferred
  simp only [hd, hw]
  cases d with
  | config => rfl
  | calibrate c r => exact if_pos (hb.resolve_left (by simp))

/-- What a change of mode leaves, block by block, for a state that is in RUN and a mode that is not. -/
theorem State.leave_run {s : State} (hrun : s.mgt.mode = .run) {m : ModeTarget} (hm : m.mode ≠ .run)
    (cause : NoticeCause) (t : Time) :
    (s.changeMode m cause t).wen =
      { s.wen with tareArmed := false, latest := none, calibration := m.calibration s.wen.gridPoints } ∧
    (s.changeMode m cause t).cyt = s.cyt.toIdle := by
  rw [State.changeMode_wen, State.changeMode_cyt, if_neg hm, if_pos ⟨hrun, hm⟩, if_pos ⟨hrun, hm⟩]
  exact ⟨rfl, rfl⟩

theorem State.changeMode_mgt (m : ModeTarget) (cause : NoticeCause) (t : Time) (s : State) :
    (s.changeMode m cause t).mgt =
      { s.mgt with mode := m.mode, alerts := (s.changeMode m cause t).mgt.alerts } :=
  Mgt.eq_of_frame (by simp) (by simp) (by simp) (by simp) (by simp)

theorem State.changeMode_offered (m : ModeTarget) (cause : NoticeCause) (t : Time) (s : State) :
    s.Offered (s.changeMode m cause t) [s.modeNotice m.mode s.mgt.mode m.cal cause t] :=
  (State.Offered.refl s).changeMode rfl m cause t

/-- Settles O47. -/
theorem deferredChangeIsApplied : Obligations.DeferredChangeIsApplied := by
  unfold Obligations.DeferredChangeIsApplied
  refine ⟨fun t s => ⟨fun h => State.applyDeferred_of_waiting h t, fun hw hrun => ?_⟩, fun w s hw hr => ?_,
    fun r x s hx hr => ?_⟩
  · intro d applied
    have happlied (f : Deferred) (hf : s.mgt.deferred = some f) (hb : f = .config ∨ s.calibrateBlock = none) :
        applied f.target.mode (f.target.calibration s.wen.gridPoints) ((f.target.cal.map fun x => x.1.code).getD 0)
          ((f.target.cal.map fun x => x.2).getD 0) := by
      have hd : d = (s.setDeferred none).changeMode f.target .deferred t := State.applyDeferred_of_ready hf hw hb t
      have hmode : f.target.mode ≠ .run := by cases f <;> simp [Deferred.target, ModeTarget.mode]
      obtain ⟨hwen, hcyt⟩ := State.leave_run (s := s.setDeferred none) hrun hmode .deferred t
      have hoffered := State.changeMode_offered f.target .deferred t (s.setDeferred none)
      rw [← hd] at hwen hcyt hoffered
      have hmgt := State.changeMode_mgt f.target .deferred t (s.setDeferred none)
      rw [← hd] at hmgt
      refine ⟨hmgt, hwen, hcyt, ?_, hoffered.cport, ?_⟩
      · have hqueue := hoffered.queue
        rw [State.modeNotice, show (s.setDeferred none).mgt.mode = .run from hrun] at hqueue
        exact hqueue
      · exact State.eq_of_frame (s := s) (d := d) (by simp [d]) (by simp [d]) (by simp [d]) (by simp [d])
          (by simp [d]) (by simp [d]) (by simp [d]) (by simp [d]) (by simp [d])
    refine ⟨fun hf => happlied .config hf (.inl rfl), fun c runs r hf hr hh hb => ?_⟩
    have hblock : s.calibrateBlock = none := s.calibrateBlock_eq_none.2 ⟨by simp [hr], hh, hb⟩
    have happly := happlied (.calibrate c runs) hf (.inr hblock)
    rw [Wen.gridPoints, hr] at happly
    exact happly
  · simp only [exec, execWindowTimeout, hw, Option.map_some, State.due_of_reached hr]
  · intro aged lost
    have hexec : exec (.lossExpiry r) s = .next (s.slotLost r x) := by
      simp only [exec, execLossExpiry, hx, State.due_of_reached hr]
    have hwork : lossEndsWork r = true ↔ r = .head ∨ r = .boom := by cases r <;> simp [lossEndsWork]
    rw [hexec]
    refine congrArg Host.Outcome.next (if_congr hwork rfl rfl)

/-! ### SET_MODE -/

theorem State.respond_cport_e (p : Port) (code tag : Byte) (status : Status) (results : List Byte) (s : State) :
    (s.respond p code tag status results).cport.e = s.cport.e := by
  cases p with
  | cab =>
    simp only [State.respond, State.offerResponse]
    split <;> rfl
  | machine => rfl

section
variable {p : Port} {s : State} (tag target runs : Byte)

theorem exec_setMode_of_bad {mode : Byte} (hr : s.hasRoom p = true)
    (h : modeTargetOf mode.toNat target.toNat runs.toNat = none) :
    exec (.setMode p tag mode target runs) s = .next (s.respond p 0x10 tag .badArg []) := by
  rw [exec_request_of_room rfl hr]
  simp only [State.carryOut, State.cmdSetMode, h]

/-- A valid SET_MODE answers with what the table of R198 gives. -/
theorem exec_setMode {mode : Byte} {m : ModeTarget} {q : State} {st : Status} {results : List Byte}
    (hr : s.hasRoom p = true) (h : modeTargetOf mode.toNat target.toNat runs.toNat = some m)
    (hq : s.requestMode m = ⟨q, st, results⟩) :
    exec (.setMode p tag mode target runs) s = .next (q.respond p 0x10 tag st results) := by
  rw [exec_request_of_room rfl hr]
  simp only [State.carryOut, State.cmdSetMode, h, hq]

end

/-- With a window OPEN in RUN a change waits, and RUN removes it (R198, R199). -/
theorem State.requestMode_of_open {s : State} (h : s.mgt.mode = .run ∧ s.wen.window.isSome = true) :
    s.requestMode .run = ⟨s.setDeferred none, .ok, []⟩ ∧
    s.requestMode .config = ⟨s.setDeferred (some .config), .deferred, []⟩ ∧
    ∀ c r, s.requestMode (.calibrate c r) = ⟨s.setDeferred (some (.calibrate c r)), .deferred, []⟩ := by
  unfold State.requestMode
  refine ⟨if_pos h, if_pos h, fun c r => if_pos h⟩

theorem State.requestMode_config {s : State} (h : ¬ (s.mgt.mode = .run ∧ s.wen.window.isSome = true)) :
    s.requestMode .config = if s.mgt.mode = .config then ⟨s, .ok, []⟩ else
      ⟨s.changeMode .config .command s.time, .ok, []⟩ := by
  unfold State.requestMode
  rw [if_neg h]
  rfl

theorem State.requestMode_run {s : State} (h : s.mgt.mode ≠ .run) :
    s.requestMode .run = s.changeUnless s.runBlock .run := by
  unfold State.requestMode
  rw [if_neg (fun hopen => h hopen.1)]
  exact if_neg h

theorem State.requestMode_calibrate {s : State} (h : ¬ (s.mgt.mode = .run ∧ s.wen.window.isSome = true)) (c : CurveName)
    (runs : Nat) : s.requestMode (.calibrate c runs) = s.changeUnless s.calibrateBlock (.calibrate c runs) := by
  unfold State.requestMode
  rw [if_neg h]

theorem State.changeUnless_of_some {s : State} {block : Option NotReady} {d : NotReady} (h : block = some d)
    (m : ModeTarget) : s.changeUnless block m = ⟨s, .notReady, eField d.code⟩ := by
  subst h
  rfl

theorem State.changeUnless_of_none {s : State} {block : Option NotReady} (h : block = none) (m : ModeTarget) :
    s.changeUnless block m = ⟨s.changeMode m .command s.time, .ok, []⟩ := by
  subst h
  rfl

/-- The first condition that fails, in the order of R201: those of CALIBRATE come first. -/
theorem State.runBlock_of_calibrateBlock {s : State} {d : NotReady} (h : s.calibrateBlock = some d) :
    s.runBlock = some d := by
  unfold State.calibrateBlock at h
  unfold State.runBlock
  split_ifs at h ⊢ <;> exact h

theorem modeTargetOf_calibrate {target runs : Nat} {c : CurveName} (hc : target = c.code) (hlo : 1 ≤ runs)
    (hhi : runs ≤ 4) : modeTargetOf 2 target runs = some (.calibrate c runs) := by
  subst hc
  cases c <;> exact if_pos ⟨hlo, hhi⟩

theorem modeTargetOf_of_high {mode target runs : Nat} (h : 3 ≤ mode) : modeTargetOf mode target runs = none := by
  match mode, h with
  | n + 3, _ => rfl

theorem modeTargetOf_calibrate_of_bad {target runs : Nat} (h : 2 ≤ target ∨ runs = 0 ∨ 5 ≤ runs) :
    modeTargetOf 2 target runs = none := by
  match target with
  | 0 => exact if_neg (by omega)
  | 1 => exact if_neg (by omega)
  | n + 2 => rfl

/-- The conditions of CALIBRATE in their order (R85). -/
theorem State.calibrateBlock_cases (s : State) :
    (s.wen.record = none → s.calibrateBlock = some .machine) ∧
    (s.wen.record.isSome = true → s.sig.head.mapped = false → s.calibrateBlock = some .head) ∧
    (s.wen.record.isSome = true → s.sig.head.mapped = true → s.sig.boom.mapped = false →
      s.calibrateBlock = some .boom) := by
  unfold State.calibrateBlock
  refine ⟨fun hr => ?_, fun hr hh => ?_, fun hr hh hb => ?_⟩
  · rw [if_pos hr]
  · rw [if_neg (by simpa [Option.isSome_iff_ne_none] using hr), if_pos hh]
  · rw [if_neg (by simpa [Option.isSome_iff_ne_none] using hr), if_neg (by simp [hh]), if_pos hb]

/-- The conditions of RUN that follow them (R201). -/
theorem State.runBlock_cases {s : State} (h : s.calibrateBlock = none) :
    (s.wen.curveState ≠ .valid → s.runBlock = some .curves) ∧
    (s.wen.curveState = .valid → anyBandUsed s.wen.bands = false → s.runBlock = some .bands) ∧
    (s.wen.curveState = .valid → anyBandUsed s.wen.bands = true → s.lac.materialUsed = false →
      s.runBlock = some .material) := by
  obtain ⟨hr, hh, hb⟩ := s.calibrateBlock_eq_none.1 h
  have hr' : ¬ s.wen.record = none := Option.isSome_iff_ne_none.1 hr
  unfold State.runBlock
  rw [if_neg hr', if_neg (by simp [hh]), if_neg (by simp [hb])]
  refine ⟨fun hc => if_pos hc, fun hc hu => ?_, fun hc hu hm => ?_⟩
  · rw [if_neg (not_not.2 hc), if_pos hu]
  · rw [if_neg (not_not.2 hc), if_neg (by simp [hu]), if_pos hm]

/-- Settles O48: the table of R198, line by line. -/
theorem setModeFollowsTheTable : Obligations.SetModeFollowsTheTable := by
  unfold Obligations.SetModeFollowsTheTable
  intro p tag target runs s hr open' answers defers noticed
  have hnotice (m : ModeTarget) (st : Status) (results : List Byte) : noticed
      ((s.changeMode m .command s.time).respond p 0x10 tag st results) m.mode
      ((m.cal.map fun x => x.1.code).getD 0) ((m.cal.map fun x => x.2).getD 0) := by
    simp only [noticed, State.respond_cport_e]
    exact (State.changeMode_offered m .command s.time s).queue
  have hconfig : modeTargetOf (0 : Byte).toNat target.toNat runs.toNat = some .config := rfl
  have hrun : modeTargetOf (1 : Byte).toNat target.toNat runs.toNat = some .run := rfl
  have hfails (block : Option NotReady) (d : NotReady) (hb : block = some d) (mode : Byte) (m : ModeTarget)
      (hm : modeTargetOf mode.toNat target.toNat runs.toNat = some m)
      (hq : s.requestMode m = s.changeUnless block m) : answers mode s .notReady (eField d.code) :=
    exec_setMode tag target runs hr hm (hq.trans (State.changeUnless_of_some hb m))
  obtain ⟨hnoRecord, hnoHead, hnoBoom⟩ := s.calibrateBlock_cases
  refine ⟨fun mode hmode => ?_, fun hbad => ?_, fun hopen => ⟨?_, ?_⟩, fun hm => ?_, fun hm hw => ?_, fun hm hw => ?_,
    fun hm => ?_, fun hm => ⟨fun hrec => ?_, fun hrec hh => ?_, fun hrec hh hb => ?_, fun hrec hh hb => ?_⟩,
    fun c hc hlo hhi => ⟨fun hopen => ?_, fun hopen => ⟨fun hrec => ?_, fun hrec hh => ?_, fun hrec hh hb => ?_,
      fun r hrec hh hb => ?_⟩⟩⟩
  · exact exec_setMode_of_bad tag target runs hr (modeTargetOf_of_high hmode)
  · refine exec_setMode_of_bad tag target runs hr (modeTargetOf_calibrate_of_bad (hbad.imp_right (Or.imp_left ?_)))
    rintro rfl
    rfl
  · exact exec_setMode tag target runs hr hconfig (State.requestMode_of_open hopen).2.1
  · exact exec_setMode tag target runs hr hrun (State.requestMode_of_open hopen).1
  · refine exec_setMode tag target runs hr hconfig ((State.requestMode_config ?_).trans (if_pos hm))
    simp [hm]
  · refine exec_setMode tag target runs hr hrun ?_
    rw [State.requestMode, if_neg (by simp [hw])]
    exact if_pos hm
  · obtain ⟨hwen, hcyt⟩ := State.leave_run (m := .config) hm (by simp [ModeTarget.mode]) .command s.time
    refine ⟨_, exec_setMode tag target runs hr hconfig
      ((State.requestMode_config (by simp [hw])).trans (if_neg (by simp [hm]))), ?_⟩
    simp only [State.respond_frame, hwen, hcyt, State.changeMode_mode, State.changeMode_frame]
    exact ⟨rfl, rfl, rfl, trivial, rfl, trivial, trivial, trivial, trivial, hnotice .config _ _⟩
  · refine ⟨_, exec_setMode tag target runs hr hconfig
      ((State.requestMode_config (by simp [hm])).trans (if_neg (by simp [hm]))), ?_⟩
    simp only [State.respond_frame, State.changeMode_wen, State.changeMode_cyt, State.changeMode_mode,
      State.changeMode_frame]
    refine ⟨rfl, ?_, ?_, trivial, trivial, trivial, trivial, hnotice .config _ _⟩
    · simp [hm, ModeTarget.mode, ModeTarget.calibration]
    · simp [hm, ModeTarget.mode]
  · exact hfails _ .machine (State.runBlock_of_calibrateBlock (hnoRecord hrec)) 1 .run hrun (State.requestMode_run hm)
  · exact hfails _ .head (State.runBlock_of_calibrateBlock (hnoHead hrec hh)) 1 .run hrun (State.requestMode_run hm)
  · exact hfails _ .boom (State.runBlock_of_calibrateBlock (hnoBoom hrec hh hb)) 1 .run hrun
      (State.requestMode_run hm)
  · have hblock := s.calibrateBlock_eq_none.2 ⟨hrec, hh, hb⟩
    obtain ⟨hcurves, hbands, hmaterial⟩ := State.runBlock_cases hblock
    refine ⟨fun hv => ?_, fun hv hu => ?_, fun hv hu hl => ?_, fun hv hu hl => ?_⟩
    · exact hfails _ .curves (hcurves hv) 1 .run hrun (State.requestMode_run hm)
    · exact hfails _ .bands (hbands hv hu) 1 .run hrun (State.requestMode_run hm)
    · exact hfails _ .material (hmaterial hv hu hl) 1 .run hrun (State.requestMode_run hm)
    · have hnone : s.runBlock = none := s.runBlock_eq_none.2 ⟨hblock, hv, hu, hl⟩
      refine ⟨_, exec_setMode tag target runs hr hrun
        ((State.requestMode_run hm).trans (State.changeUnless_of_none hnone _)), ?_⟩
      simp only [State.respond_frame, State.changeMode_wen, State.changeMode_cyt, State.changeMode_mode,
        State.changeMode_frame]
      refine ⟨rfl, rfl, rfl, ?_, trivial, trivial, trivial, trivial, trivial, trivial, hnotice .run _ _, fun hk => ?_⟩
      · simp [hm, ModeTarget.mode]
      · exact State.respond_responses_of hk (by simp) (by simp) (by simp) _ _ _ _
  · exact exec_setMode tag target runs hr (modeTargetOf_calibrate hc hlo hhi)
      ((State.requestMode_of_open hopen).2.2 c runs.toNat)
  · exact hfails _ .machine (hnoRecord hrec) 2 _ (modeTargetOf_calibrate hc hlo hhi)
      (State.requestMode_calibrate hopen c runs.toNat)
  · exact hfails _ .head (hnoHead hrec hh) 2 _ (modeTargetOf_calibrate hc hlo hhi)
      (State.requestMode_calibrate hopen c runs.toNat)
  · exact hfails _ .boom (hnoBoom hrec hh hb) 2 _ (modeTargetOf_calibrate hc hlo hhi)
      (State.requestMode_calibrate hopen c runs.toNat)
  · have hnone : s.calibrateBlock = none := s.calibrateBlock_eq_none.2 ⟨by simp [hrec], hh, hb⟩
    refine ⟨_, exec_setMode tag target runs hr (modeTargetOf_calibrate hc hlo hhi)
      ((State.requestMode_calibrate hopen c runs.toNat).trans (State.changeUnless_of_none hnone _)), ?_⟩
    refine ⟨by simp [ModeTarget.mode], ?_, by simp, by simp, by simp, by simp, fun hm => ?_, hnotice _ _ _⟩
    · simp [State.changeMode_wen, ModeTarget.calibration, Calibration.start, Wen.gridPoints, hrec]
    · obtain ⟨hwen, hcyt⟩ := State.leave_run (m := .calibrate c runs.toNat) hm
        (by simp [ModeTarget.mode]) .command s.time
      simp only [State.respond_frame, hwen, hcyt]
      exact ⟨rfl, rfl, trivial⟩

end Sys2Proof.Machine
end

section
/-! The transmitters: a frame taken, and what ends its transmission (R5, R168 to R174). -/
namespace Sys2Proof.Machine

/-! ### The arbiter's choice -/

/-- A channel with a frame to send: OPEN and non-empty (R168). -/
def Cport.offers (p : Cport) (ch : Channel) : Bool := (p.chan ch).isOpen && !(p.chan ch).queue.isEmpty

theorem Cport.offers_eq_false {p : Cport} {ch : Channel}
    (h : (p.chan ch).held = true ∨ (p.chan ch).blocked = true ∨ (p.chan ch).queue = []) : p.offers ch = false := by
  rcases h with h | h | h <;> simp [Cport.offers, ChannelState.isOpen, h]

/-- The arbiter chooses the first channel in its order that has a frame to send (R168). -/
theorem Cport.eligible_eq_some {p : Cport} {ch : Channel} (h : p.offers ch = true)
    (hfirst : ∀ d : Channel, d.rank < ch.rank → p.offers d = false) : p.eligible = some ch := by
  have hfind : p.eligible = [Channel.m, .e, .g, .c, .p].find? p.offers := rfl
  rw [hfind]
  cases ch with
  | m => simp [h]
  | e => simp [h, hfirst .m (by decide)]
  | g => simp [h, hfirst .m (by decide), hfirst .e (by decide)]
  | c => simp [h, hfirst .m (by decide), hfirst .e (by decide), hfirst .g (by decide)]
  | p => simp [h, hfirst .m (by decide), hfirst .e (by decide), hfirst .g (by decide), hfirst .c (by decide)]

/-! ### The toggle stamped (R173) -/

/-- The stamped byte: bit 7 is the toggle, the other bits stay. -/
theorem stamped_byte (v : Bool) (b : Byte) :
    ((b &&& 0x7F) ||| (if v then 0x80 else 0x00)).getLsbD 7 = v ∧
    ((b &&& 0x7F) ||| (if v then 0x80 else 0x00)).toNat % 128 = b.toNat % 128 := by
  constructor
  · cases v <;> simp
  · rw [← BitVec.toNat_setWidth 7 b, ← BitVec.toNat_setWidth 7]
    congr 1
    apply BitVec.eq_of_getLsbD_eq
    intro i hi
    interval_cases i <;> cases v <;> simp

theorem byteAt_stampToggle {bytes : List Byte} (h : bytes.length = 8) (v : Bool) :
    byteAt (stampToggle v bytes) 7 = (byteAt bytes 7 &&& 0x7F) ||| (if v then 0x80 else 0x00) := by
  simp [byteAt, stampToggle, List.getD_eq_getElem?_getD, h]

/-- A stamped frame differs from the frame in its toggle alone. -/
theorem stampFrame_spec {f : Frame} (h : (frameBytes f).length = 8) (v : Bool) :
    (stampFrame (some v) f).id = f.id ∧
    (frameBytes (stampFrame (some v) f)).take 7 = (frameBytes f).take 7 ∧
    (stampFrame (some v) f).body = .data (frameBytes (stampFrame (some v) f)) ∧
    (frameBytes (stampFrame (some v) f)).length = 8 ∧
    (byteAt (frameBytes (stampFrame (some v) f)) 7).toNat % 128 = (byteAt (frameBytes f) 7).toNat % 128 ∧
    toggleOf (frameBytes (stampFrame (some v) f)) = v := by
  have hbytes : frameBytes (stampFrame (some v) f) = stampToggle v (frameBytes f) := rfl
  obtain ⟨htoggle, hrest⟩ := stamped_byte v (byteAt (frameBytes f) 7)
  rw [hbytes, toggleOf, byteAt_stampToggle h]
  exact ⟨rfl, by simp [stampToggle, List.take_set_of_le], rfl, by simp [stampToggle, h], hrest, htoggle⟩

/-- Settles O49. -/
theorem transmittersTakeInOrder : Obligations.TransmittersTakeInOrder := by
  unfold Obligations.TransmittersTakeInOrder
  refine ⟨fun ch f q s hc hs hq hheld hblocked hfirst => ?_, fun s hc hs hq => ?_⟩
  · have hready : s.cport.ready = true := by simp [Cport.ready, hc, hs]
    have hoffers : s.cport.offers ch = true := by simp [Cport.offers, ChannelState.isOpen, hheld, hblocked, hq]
    have heligible := Cport.eligible_eq_some hoffers fun d hd => Cport.offers_eq_false (hfirst d hd)
    refine ⟨s.modCport fun p => p.takeFrom ch, stampFrame (s.cport.toggle ch) f, ?_, rfl, ?_, ?_, ?_, fun d hd => ?_,
      rfl, ?_, ?_, ?_, ?_⟩
    · simp only [exec, execArbiterTake, hready, heligible]
    · change ((s.cport.takeFrom ch).chan ch).queue = _
      rw [Cport.takeFrom_chan, Cport.chan_setChan_self, hq]
      rfl
    · rintro (rfl | rfl | rfl) <;> rfl
    · rintro bytes rfl hlen hch
      obtain ⟨v, hv, hvalue⟩ : ∃ v, s.cport.toggle ch = some v ∧
          v = if ch = .g then s.cport.toggleG else s.cport.toggleE := by
        rcases hch with rfl | rfl
        · exact ⟨_, rfl, rfl⟩
        · exact ⟨_, rfl, rfl⟩
      obtain ⟨hid, htake, hbody, hlength, hrest, htoggle⟩ := stampFrame_spec hlen v
      rw [hv]
      exact ⟨hid, htake, hbody, hlength, hrest, htoggle.trans hvalue⟩
    · change (s.cport.takeFrom ch).chan d = _
      rw [Cport.takeFrom_chan, Cport.chan_setChan_ne hd]
    · exact Cport.setChan_tx _ _ _
    · exact Cport.setChan_toggleG _ _ _
    · exact Cport.setChan_toggleE _ _ _
    · exact Cport.setChan_budget _ _ _
  · exact congrArg Host.Outcome.next (if_pos ⟨hc, hs, hq⟩)

/-! ### Outcomes of an attempt -/

/-- The toggles after a SENT frame: the inverse of the one carried, or the pending value (R173, R174). -/
theorem Cport.sent_toggleValues {p : Cport} {ch : Channel} {f : Frame} {q : List Frame}
    (h : (p.chan ch).queue = f :: q) :
    (p.sent ch).toggleG = (if ch = .g then p.pendingG.getD (!toggleOf (frameBytes f)) else p.toggleG) ∧
    (p.sent ch).toggleE = (if ch = .e then p.pendingE.getD (!toggleOf (frameBytes f)) else p.toggleE) := by
  have hflip : p.flipToggle ch = p.setToggle ch (!toggleOf (frameBytes f)) := by simp only [Cport.flipToggle, h]
  obtain ⟨-, -, -, -, -, -, -, hg, he⟩ := (p.flipToggle ch).settleToggle_frame ch
  obtain ⟨-, -, hpg, hpe, -⟩ := p.setToggle_frame ch (!toggleOf (frameBytes f))
  have hsent : (p.sent ch).toggleG = ((p.flipToggle ch).settleToggle ch).toggleG ∧
      (p.sent ch).toggleE = ((p.flipToggle ch).settleToggle ch).toggleE :=
    ⟨Cport.setChan_toggleG _ _ _, Cport.setChan_toggleE _ _ _⟩
  rw [hsent.1, hsent.2, hg, he, hflip, hpg, hpe]
  cases ch <;> exact ⟨rfl, rfl⟩

/-- The cab port after the carried frame is discarded, with its transmitter as it is left (R170, R174). -/
theorem Cport.discarded_eq (p : Cport) (ch : Channel) (x : TxState) :
    { (p.settleToggle ch).letGo ch with tx := x } =
      { p.setChan ch { p.chan ch with queue := (p.chan ch).queue.tail } with
        carrying := none, tx := x
        toggleG := if ch = .g then p.pendingG.getD p.toggleG else p.toggleG
        toggleE := if ch = .e then p.pendingE.getD p.toggleE else p.toggleE
        pendingG := if ch = .g then none else p.pendingG
        pendingE := if ch = .e then none else p.pendingE } := by
  obtain ⟨g, e, p', m, c, toggleG, toggleE, pendingG, pendingE, carrying, tx, budget, gap, gauge⟩ := p
  cases ch with
  | g => cases pendingG <;> rfl
  | e => cases pendingE <;> rfl
  | p => rfl
  | m => rfl
  | c => rfl

/-- The retry state after a drop: SILENT at the third in a row (R170, R171). -/
theorem TxState.dropped_eq {x : TxState} (h : x.drops < 3) (t : Time) :
    x.dropped t = (if x.drops = 2 then ⟨0, 0, some (Time.plus t 1000)⟩
      else { x with failed := 0, drops := x.drops + 1 }) ∧ (x.silences = true ↔ x.drops = 2) := by
  have hlimit : x.drops + 1 < Config.dropLimit ↔ ¬ x.drops = 2 := by simp only [Config.dropLimit]; omega
  constructor
  · rw [TxState.dropped]
    by_cases hd : x.drops = 2
    · rw [if_neg (fun hlt => hlimit.1 hlt hd), if_pos hd]
      rfl
    · rw [if_pos (hlimit.2 hd), if_neg hd]
  · simp [TxState.silences, hlimit]

/-- The port's state after its carried frame is dropped, before the alerts (R170, R171). -/
def State.freed (s : State) (p : Port) : State := (s.discardCarried p).setTx p ((s.tx p).dropped s.time)

/-- A drop: the frame discarded, TX_FAULT, and PORT_SILENT after it when the port falls silent. -/
theorem State.dropCarried_eq {p : Port} {s : State} (h : (s.tx p).drops < 3) : s.dropCarried p s.time =
    if (s.tx p).drops = 2 then
      ((s.freed p).raiseSub .txFault (s.faultSub p) (portCode p) s.time).raiseAlert .portSilent (portCode p) s.time
    else (s.freed p).raiseSub .txFault (s.faultSub p) (portCode p) s.time :=
  if_congr (TxState.dropped_eq h s.time).2 rfl rfl

/-- What a drop leaves on the ports: the freed transmitter, and nothing but offers to E besides. -/
theorem State.dropCarried_offered {p : Port} {s : State} (h : (s.tx p).drops < 3) :
    ∃ fs, (s.freed p).Offered (s.dropCarried p s.time) fs := by
  have hfault := (State.Offered.refl (s.freed p)).raiseSub rfl rfl .txFault (s.faultSub p) (portCode p) s.time
  rw [State.dropCarried_eq h]
  split
  · exact ⟨_, hfault.raiseAlert (by simp) (by simp) .portSilent (portCode p) s.time⟩
  · exact ⟨_, hfault⟩

/-- The frames that E gains stand behind those it held. -/
theorem ChannelState.afterOffers_eq_append (x : ChannelState) (fs : List Frame) :
    ∃ more, x.afterOffers fs = x.queue ++ more := by
  unfold ChannelState.afterOffers
  split
  · exact ⟨[], (List.append_nil _).symm⟩
  · exact ⟨_, rfl⟩

/-- What offers to E leave of any channel. -/
theorem State.Offered.chan {s t : State} {fs : List Frame} (h : s.Offered t fs) (ch : Channel) :
    ∃ more, (t.cport.chan ch).queue = (s.cport.chan ch).queue ++ more ∧ (ch ≠ .e → more = []) := by
  obtain ⟨more, hmore⟩ := s.cport.e.afterOffers_eq_append fs
  rw [h]
  cases ch with
  | e => exact ⟨more, hmore, fun hne => absurd rfl hne⟩
  | g => exact ⟨[], (List.append_nil _).symm, fun _ => rfl⟩
  | p => exact ⟨[], (List.append_nil _).symm, fun _ => rfl⟩
  | m => exact ⟨[], (List.append_nil _).symm, fun _ => rfl⟩
  | c => exact ⟨[], (List.append_nil _).symm, fun _ => rfl⟩

/-- The freed cab port. -/
theorem State.freed_cab {s : State} {ch : Channel} (h : s.cport.carrying = some ch) :
    s.freed .cab = { s with cport :=
      { ((s.cport.settleToggle ch).letGo ch) with tx := s.cport.tx.dropped s.time } } := by
  simp only [State.freed, State.discardCarried, h]
  rfl

section
variable {p : Port} {s : State} (h : (s.tx p).drops < 3)
include h

theorem State.dropCarried_mport : (s.dropCarried p s.time).mport = (s.freed p).mport := by
  rw [State.dropCarried_eq h]
  split <;> simp

theorem State.dropCarried_latches : (s.dropCarried p s.time).mgt.alerts.getLsbD 6 = true := by
  have hfault := (s.freed p).raiseSub_latches .txFault (s.faultSub p) (portCode p) s.time
  rw [State.dropCarried_eq h]
  split
  · exact State.raiseAlert_keeps _ _ _ hfault
  · exact hfault

/-- The alerts of a drop in the words of R202. -/
theorem State.dropCarried_closed (hsub : s.faultSub p < 16) : s.dropCarried p s.time =
    if (s.tx p).drops = 2 then
      ((s.freed p).afterAlert 6 (s.faultSub p) (portCode p) s.time).afterAlert 7 15 (portCode p) s.time
    else (s.freed p).afterAlert 6 (s.faultSub p) (portCode p) s.time := by
  rw [State.dropCarried_eq h, State.raiseSub_eq _ _ _ _ _ hsub, State.raiseAlert_eq]
  rfl

end

/-- Settles O50. -/
theorem attemptOutcomesEndTheTransmission : Obligations.AttemptOutcomesEndTheTransmission := by
  unfold Obligations.AttemptOutcomesEndTheTransmission
  refine ⟨⟨fun ch f q s hc hq => ?_, fun f q s hc hq => ?_⟩, fun p s => ⟨rfl, fun hc hf => ?_, fun hc hf hd => ?_,
    fun e he hr => ?_⟩⟩
  · obtain ⟨htoggleG, htoggleE⟩ := Cport.sent_toggleValues hq
    obtain ⟨-, -, -, -, -, hpendingG, hpendingE⟩ := s.cport.sent_toggles ch
    refine ⟨s.modCport fun p => p.sent ch, ?_, ?_, rfl, rfl, htoggleG, htoggleE, ?_, ?_, fun d hd => ?_, rfl⟩
    · simp only [exec, execAttemptSent, hc]
    · change ((s.cport.sent ch).chan ch).queue = q
      rw [Cport.sent_chan, Cport.letGo_chan, Cport.chan_setChan_self, ChannelState.pop, hq]
      rfl
    · exact (Cport.setChan_pendingG _ _ _).trans hpendingG
    · exact (Cport.setChan_pendingE _ _ _).trans hpendingE
    · change (s.cport.sent ch).chan d = _
      rw [Cport.sent_chan, Cport.letGo_chan, Cport.chan_setChan_ne hd]
  · refine congrArg Host.Outcome.next ((if_pos hc).trans ?_)
    simp only [State.modMport, Mport.sent, hq]
    rfl
  · refine congrArg Host.Outcome.next ((if_pos hc).trans (if_pos ?_))
    exact Nat.succ_lt_succ hf
  · have hexec : exec (.attemptFailed p) s = .next (s.dropCarried p s.time) := by
      refine congrArg Host.Outcome.next ((if_pos hc).trans (if_neg ?_))
      simp [hf, Config.failLimit]
    obtain ⟨hdropped, -⟩ := TxState.dropped_eq hd s.time
    obtain ⟨fs, hoffered⟩ := State.dropCarried_offered hd
    have hmport := State.dropCarried_mport hd
    have htx : (s.dropCarried p s.time).tx p = (s.tx p).dropped s.time := by
      cases p with
      | cab => exact congrArg Cport.tx hoffered
      | machine => exact congrArg Mport.tx hmport
    refine ⟨_, hexec, ?_, State.dropCarried_latches hd, ?_, fun hlt => ?_, fun h2 => ?_, fun ch hp hch => ?_,
      fun hp => ?_, ⟨fun hp => ?_, fun ch hp hch => ?_⟩, ?_⟩
    · cases p with
      | cab =>
        obtain ⟨ch, hch⟩ := Option.isSome_iff_exists.1 hc
        rw [State.carries, hoffered, State.freed_cab hch]
        rfl
      | machine =>
        rw [State.carries, hmport]
        rfl
    · rw [htx, hdropped]
      split <;> rfl
    · rw [htx, hdropped, if_neg (Nat.ne_of_lt hlt)]
      exact ⟨rfl, rfl⟩
    · rw [htx, hdropped, if_pos h2]
      refine ⟨rfl, rfl, ?_⟩
      rw [State.dropCarried_eq hd, if_pos h2]
      exact State.raiseAlert_latches .portSilent _ _ _
    · subst hp
      obtain ⟨more, hmore, hnone⟩ := hoffered.chan ch
      refine ⟨more, hmore.trans ?_, hnone⟩
      rw [State.freed_cab hch]
      have hchan (x : TxState) : ({ (s.cport.settleToggle ch).letGo ch with tx := x } : Cport).chan ch =
          ((s.cport.settleToggle ch).letGo ch).chan ch := by cases ch <;> rfl
      rw [hchan, Cport.settled_letGo_chan, Cport.letGo_chan, Cport.chan_setChan_self]
      rfl
    · subst hp
      rw [hmport]
      rfl
    · subst hp
      rw [State.dropCarried_closed hd (by norm_num [State.faultSub]), ← hdropped]
      rfl
    · subst hp
      have hsub : s.faultSub .cab = ch.code := by simp [State.faultSub, hch]
      rw [State.dropCarried_closed hd (by rw [hsub]; cases ch <;> decide), hsub, ← hdropped, State.freed_cab hch,
        Cport.discarded_eq]
      rfl
    · rw [State.dropCarried_eq hd]
      split <;> simp [State.freed]
  · have hdue : s.due (s.tx p).silence = some e := by rw [he, State.due_of_reached hr]
    simp only [exec, execSilenceEnd, hdue]

end Sys2Proof.Machine
end

section
/-! The cab port's commands (R160, R161, R174, R187) and the gauge (R177, R178). -/
namespace Sys2Proof.Machine

/-! ### CHANNEL -/

theorem channelOf_code (ch : Channel) : channelOf (BitVec.ofNat 8 ch.code).toNat = some ch := by cases ch <;> rfl

theorem channelOf_of_high {n : Nat} (h : 5 ≤ n) : channelOf n = none := by
  match n, h with
  | n + 5, _ => rfl

section
variable (p : Port) (tag : Byte) (s : State)

/-- An action on the channel that a code names. -/
theorem State.channelAction_of (act : Channel → Cport → Cport) (ch : Channel) :
    s.channelAction act p tag (BitVec.ofNat 8 ch.code) = (s.modCport (act ch)).respond p 0x30 tag .ok [] := by
  simp only [State.channelAction, channelOf_code]

theorem State.channelAction_of_bad (act : Channel → Cport → Cport) {bad : Byte} (h : 5 ≤ bad.toNat) :
    s.channelAction act p tag bad = s.respond p 0x30 tag .badArg [] := by
  simp only [State.channelAction, channelOf_of_high h]

theorem State.toggleAction_of (v : Bool) {code : Byte} {ch : Channel} (hc : channelOf code.toNat = some ch)
    (ht : ch.hasToggle = true) :
    s.toggleAction v p tag code = (s.modCport fun q => q.forceToggle ch v).respond p 0x30 tag .ok [] := by
  simp only [State.toggleAction, hc, ht, if_true]

theorem State.toggleAction_of_bad (v : Bool) {code : Byte} (h : 2 ≤ code.toNat) :
    s.toggleAction v p tag code = s.respond p 0x30 tag .badArg [] := by
  unfold State.toggleAction
  split
  · rename_i ch hch
    have hno : ch.hasToggle = false := by
      match hn : code.toNat, h with
      | 2, _ | 3, _ | 4, _ =>
        rw [hn] at hch
        cases hch
        rfl
      | n + 5, _ => simp [hn, channelOf] at hch
    simp [hno]
  · rfl

end

/-- Settles O51. -/
theorem channelMarksAndTogglesFollowTheActions : Obligations.ChannelMarksAndTogglesFollowTheActions := by
  unfold Obligations.ChannelMarksAndTogglesFollowTheActions
  refine ⟨fun p tag ch s hr => ?_, fun p tag s hr => ?_⟩
  · intro code with'
    refine ⟨?_, ?_, ?_, fun hb => ?_, fun hb => ?_, fun bad hbad => ⟨?_, ?_, ?_, ?_⟩⟩
    all_goals rw [exec_request_of_room rfl hr]
    all_goals refine congrArg Host.Outcome.next ?_
    · exact s.channelAction_of p tag Cport.holdChan ch
    · exact s.channelAction_of p tag Cport.releaseChan ch
    · exact s.channelAction_of p tag Cport.unblockChan ch
    · refine (s.channelAction_of p tag Cport.blockChan ch).trans ?_
      rw [State.modCport, Cport.blockChan_of_blocked hb]
    · refine (s.channelAction_of p tag Cport.blockChan ch).trans ?_
      rw [State.modCport, Cport.blockChan_of_unmarked hb]
    · exact s.channelAction_of_bad p tag Cport.holdChan hbad
    · exact s.channelAction_of_bad p tag Cport.releaseChan hbad
    · exact s.channelAction_of_bad p tag Cport.blockChan hbad
    · exact s.channelAction_of_bad p tag Cport.unblockChan hbad
  · intro done refuse
    have hset (v : Bool) (ch : Channel) (code : Byte) (hc : channelOf code.toNat = some ch)
        (ht : ch.hasToggle = true) : s.toggleAction v p tag code =
          ({ s with cport := s.cport.forceToggle ch v } : State).respond p 0x30 tag .ok [] :=
      s.toggleAction_of p tag v hc ht
    refine ⟨fun hc => ⟨?_, ?_⟩, fun hc => ⟨?_, ?_⟩, fun hc => ⟨?_, ?_⟩, fun hc => ⟨?_, ?_⟩,
      fun other ho => ⟨?_, ?_⟩⟩
    all_goals rw [exec_request_of_room rfl hr]
    all_goals refine congrArg Host.Outcome.next ?_
    · exact (hset true .g 0 rfl rfl).trans (by rw [Cport.forceToggle, if_neg hc]; rfl)
    · exact (hset false .g 0 rfl rfl).trans (by rw [Cport.forceToggle, if_neg hc]; rfl)
    · exact (hset true .g 0 rfl rfl).trans (by rw [Cport.forceToggle, if_pos hc]; rfl)
    · exact (hset false .g 0 rfl rfl).trans (by rw [Cport.forceToggle, if_pos hc]; rfl)
    · exact (hset true .e 1 rfl rfl).trans (by rw [Cport.forceToggle, if_neg hc]; rfl)
    · exact (hset false .e 1 rfl rfl).trans (by rw [Cport.forceToggle, if_neg hc]; rfl)
    · exact (hset true .e 1 rfl rfl).trans (by rw [Cport.forceToggle, if_pos hc]; rfl)
    · exact (hset false .e 1 rfl rfl).trans (by rw [Cport.forceToggle, if_pos hc]; rfl)
    · exact s.toggleAction_of_bad p tag true ho
    · exact s.toggleAction_of_bad p tag false ho

/-! ### GAUGE -/

theorem Sig.anyNotValid_iff (g : Sig) :
    g.anyNotValid = true ↔ ∃ r, (g.slot r).source ≠ .none ∧ (g.slot r).state ≠ .valid := by
  have hslot (r : Role) : ((g.slot r).mapped && decide ((g.slot r).state ≠ .valid)) = true ↔
      (g.slot r).source ≠ .none ∧ (g.slot r).state ≠ .valid := by simp [Slot.mapped]
  have hall : g.anyNotValid = [Role.head, .rod, .boom, .pitch, .tilt].any fun r =>
      (g.slot r).mapped && decide ((g.slot r).state ≠ .valid) := rfl
  rw [hall, List.any_eq_true]
  constructor
  · rintro ⟨r, -, h⟩
    exact ⟨r, (hslot r).1 h⟩
  · rintro ⟨r, h⟩
    exact ⟨r, by cases r <;> simp, (hslot r).2 h⟩

/-! A frame word, field by field -/

/-- The width of fields packed one after another. -/
def fieldsWidth (fields : List (Nat × Nat)) : Nat := (fields.map Prod.fst).sum

theorem packFields_lt (fields : List (Nat × Nat)) : packFields fields < 2 ^ fieldsWidth fields := by
  induction fields with
  | nil => exact Nat.one_pos
  | cons x fields ih =>
    obtain ⟨w, v⟩ := x
    have hv : v % 2 ^ w < 2 ^ w := Nat.mod_lt _ (Nat.two_pow_pos w)
    have hle : 2 ^ w * (packFields fields + 1) ≤ 2 ^ w * 2 ^ fieldsWidth fields := Nat.mul_le_mul_left _ ih
    have hwidth : fieldsWidth ((w, v) :: fields) = w + fieldsWidth fields := List.sum_cons
    rw [hwidth, Nat.pow_add]
    change v % 2 ^ w + 2 ^ w * packFields fields < _
    rw [Nat.mul_add] at hle
    omega

/-- A field is read back at the offset where those before it end. -/
theorem packFields_field (pre : List (Nat × Nat)) (w v : Nat) (post : List (Nat × Nat)) :
    packFields (pre ++ (w, v) :: post) / 2 ^ fieldsWidth pre % 2 ^ w = v % 2 ^ w := by
  induction pre with
  | nil =>
    change (v % 2 ^ w + 2 ^ w * packFields post) / 2 ^ 0 % 2 ^ w = _
    rw [pow_zero, Nat.div_one, Nat.add_mul_mod_self_left, Nat.mod_mod]
  | cons x pre ih =>
    obtain ⟨w', v'⟩ := x
    have hwidth : fieldsWidth ((w', v') :: pre) = w' + fieldsWidth pre := List.sum_cons
    rw [hwidth, Nat.pow_add, ← Nat.div_div_eq_div_mul]
    change (v' % 2 ^ w' + 2 ^ w' * packFields (pre ++ (w, v) :: post)) / 2 ^ w' / _ % _ = _
    rw [Nat.add_mul_div_left _ _ (Nat.two_pow_pos w'), Nat.div_eq_of_lt (Nat.mod_lt _ (Nat.two_pow_pos w')),
      zero_add, ih]

theorem State.displayFrame_field (s : State) (kind : Nat) (pre : List (Nat × Nat)) (w v : Nat)
    (post : List (Nat × Nat)) (h : fieldsWidth (pre ++ (w, v) :: post) ≤ 64) :
    wordBits (frameBytes (s.displayFrame kind (pre ++ (w, v) :: post))) (fieldsWidth pre) w = v % 2 ^ w := by
  obtain ⟨-, -, -, hword⟩ := s.displayFrame_word kind (pre ++ (w, v) :: post)
  rw [hword, Nat.mod_eq_of_lt ((packFields_lt _).trans_le (Nat.pow_le_pow_right Nat.two_pos h)), packFields_field]

/-- The first and the last byte of a display frame by the bits of its word. -/
theorem State.displayFrame_bytes (s : State) (kind : Nat) (fields : List (Nat × Nat)) :
    let bytes := frameBytes (s.displayFrame kind fields)
    (byteAt bytes 0).toNat % 8 = wordBits bytes 0 3 ∧
    (byteAt bytes 7).toNat / 4 = wordBits bytes 58 5 + 32 * wordBits bytes 63 1 ∧
    (toggleOf bytes = true ↔ wordBits bytes 63 1 = 1) := by
  intro bytes
  obtain ⟨-, -, -, hword⟩ := s.displayFrame_word kind fields
  have hbyte0 : byteAt bytes 0 = BitVec.ofNat 8 (packFields fields) := rfl
  have hbyte7 : byteAt bytes 7 = BitVec.ofNat 8 (packFields fields / 256 / 256 / 256 / 256 / 256 / 256 / 256) := rfl
  have htoggle : toggleOf bytes = true ↔ (byteAt bytes 7).toNat / 2 ^ 7 % 2 = 1 := by
    rw [toggleOf, BitVec.getLsbD, Nat.testBit_eq_decide_div_mod_eq, decide_eq_true_iff]
  rw [htoggle, hword, hword, hword, hbyte0, hbyte7]
  generalize packFields fields = v
  simp only [BitVec.toNat_ofNat]
  omega

/-- The field of the remaining to target: absent −32,768 (R141, R212). -/
theorem State.remainingField_eq (s : State) : s.remainingField =
    ((if s.lac.load.target = 0 then -32768
      else max (-32767) (min 32767 (rdiv ((s.lac.load.target : Int) - s.lac.load.total) 10))) % 65536).toNat := by
  unfold State.remainingField Load.remaining
  split
  · rfl
  · rw [Option.getD_some, clamp_eq (by decide)]
    rfl

/-- The gauge frame joins an empty G, takes the place of a waiting frame, or is discarded (R162). -/
theorem State.offerG_queue (f : Frame) (s : State) : (s.offerG f).cport.g.queue =
    if s.cport.g.blocked = true ∨ (s.cport.g.queue ≠ [] ∧ s.cport.carrying = some .g) then s.cport.g.queue
    else [f] := by
  unfold State.offerG
  by_cases hb : s.cport.g.blocked = true
  · rw [if_pos hb, if_pos (.inl hb)]
  · by_cases hq : s.cport.g.queue = []
    · rw [if_neg hb, if_pos hq, if_neg (by simp [hb, hq])]
      simp [ChannelState.push, State.modCport, hq]
    · by_cases hc : s.cport.carrying = some .g
      · rw [if_neg hb, if_neg hq, if_pos hc, if_pos (.inr ⟨hq, hc⟩)]
      · rw [if_neg hb, if_neg hq, if_neg hc, if_neg (by simp [hb, hc])]
        rfl

/-- A gauge frame offered changes G alone. -/
theorem State.offerG_shape (f : Frame) (s : State) :
    s.offerG f = { s with cport := { s.cport with g := (s.offerG f).cport.g } } := by
  unfold State.offerG
  (repeat' split) <;> rfl

/-- The fields of the GAUGE frame, each flag as a field of its own, with the toggle bit (R178, R212). -/
def State.gaugeFields (s : State) : List (Nat × Nat) :=
  [(3, s.gaugeCode), (1, (s.mgt.alerts.getLsbD 5).toNat), (1, (s.mgt.alerts.getLsbD 10).toNat),
   (1, s.sig.anyNotValid.toNat), (1, s.lac.load.overload.toNat), (1, s.mgt.deferred.isSome.toNat),
   (1, s.wen.tareArmed.toNat), (6, coarse 1000 63 s.cyt.lastCycle.toNat), (16, s.remainingField),
   (13, coarse 10 6000 s.liveMass), (14, coarse 100 9600 s.lac.load.total), (5, s.lac.load.buckets.length), (1, 0)]

theorem State.gaugeFrame_eq (s : State) : s.gaugeFrame = s.displayFrame 1 s.gaugeFields := by
  have hfour (a b c d : Bool) (rest : Nat) : flagBits [a, b, c, d] % 2 ^ 4 + 2 ^ 4 * rest = a.toNat % 2 ^ 1 + 2 ^ 1 *
      (b.toNat % 2 ^ 1 + 2 ^ 1 * (c.toNat % 2 ^ 1 + 2 ^ 1 * (d.toNat % 2 ^ 1 + 2 ^ 1 * rest))) := by
    cases a <;> cases b <;> cases c <;> cases d <;> simp [flagBits] <;> omega
  have htwo (a b : Bool) (rest : Nat) : flagBits [a, b] % 2 ^ 2 + 2 ^ 2 * rest = a.toNat % 2 ^ 1 + 2 ^ 1 *
      (b.toNat % 2 ^ 1 + 2 ^ 1 * rest) := by
    cases a <;> cases b <;> simp [flagBits] <;> omega
  simp only [State.gaugeFrame, State.gaugeFields, State.displayFrame, wordBytes, packFields, hfour, htwo]
  rfl

theorem State.gaugeFields_width (s : State) : fieldsWidth s.gaugeFields ≤ 64 := by
  simp [fieldsWidth, State.gaugeFields]

/-- A field of the GAUGE frame. -/
theorem State.gauge_field {s : State} {pre : List (Nat × Nat)} {w v : Nat} {post : List (Nat × Nat)}
    (h : s.gaugeFields = pre ++ (w, v) :: post) (hv : v < 2 ^ w) {lo : Nat} (hlo : fieldsWidth pre = lo) :
    wordBits (frameBytes s.gaugeFrame) lo w = v := by
  have hwidth := s.gaugeFields_width
  rw [h] at hwidth
  rw [s.gaugeFrame_eq, h, ← hlo, State.displayFrame_field _ _ _ _ _ _ hwidth, Nat.mod_eq_of_lt hv]

/-- The flags and values of the GAUGE frame at their places (R178, R212). -/
theorem State.gauge_fields (s : State) :
    wordBits (frameBytes s.gaugeFrame) 0 3 = s.gaugeCode ∧
    wordBits (frameBytes s.gaugeFrame) 3 1 = (s.mgt.alerts.getLsbD 5).toNat ∧
    wordBits (frameBytes s.gaugeFrame) 4 1 = (s.mgt.alerts.getLsbD 10).toNat ∧
    wordBits (frameBytes s.gaugeFrame) 5 1 = s.sig.anyNotValid.toNat ∧
    wordBits (frameBytes s.gaugeFrame) 6 1 = s.lac.load.overload.toNat ∧
    wordBits (frameBytes s.gaugeFrame) 7 1 = s.mgt.deferred.isSome.toNat ∧
    wordBits (frameBytes s.gaugeFrame) 8 1 = s.wen.tareArmed.toNat := by
  have hcode : s.gaugeCode < 2 ^ 3 := by
    unfold State.gaugeCode
    cases s.mgt.mode <;> cases s.cyt.state <;> decide
  have hflag (b : Bool) : b.toNat < 2 ^ 1 := Bool.toNat_lt b
  refine ⟨State.gauge_field (pre := []) rfl hcode rfl, State.gauge_field (pre := [_]) rfl (hflag _) rfl,
    State.gauge_field (pre := [_, _]) rfl (hflag _) rfl, State.gauge_field (pre := [_, _, _]) rfl (hflag _) rfl,
    State.gauge_field (pre := [_, _, _, _]) rfl (hflag _) rfl,
    State.gauge_field (pre := [_, _, _, _, _]) rfl (hflag _) rfl,
    State.gauge_field (pre := [_, _, _, _, _, _]) rfl (hflag _) rfl⟩

theorem State.gauge_values (s : State) :
    wordBits (frameBytes s.gaugeFrame) 9 6 = reduced 1000 63 s.cyt.lastCycle.toNat ∧
    wordBits (frameBytes s.gaugeFrame) 15 16 = s.remainingField ∧
    wordBits (frameBytes s.gaugeFrame) 31 13 = reduced 10 6000 s.massShown ∧
    wordBits (frameBytes s.gaugeFrame) 44 14 = reduced 100 9600 s.lac.load.total ∧
    wordBits (frameBytes s.gaugeFrame) 58 5 = s.lac.load.buckets.length % 32 ∧
    wordBits (frameBytes s.gaugeFrame) 63 1 = 0 := by
  have hremaining : s.remainingField < 2 ^ 16 := by
    rw [State.remainingField_eq]
    omega
  have hcycle : coarse 1000 63 s.cyt.lastCycle.toNat < 2 ^ 6 := (coarse_le _ _ _).trans_lt (by norm_num)
  have hmass : coarse 10 6000 s.liveMass < 2 ^ 13 := (coarse_le _ _ _).trans_lt (by norm_num)
  have htotal : coarse 100 9600 s.lac.load.total < 2 ^ 14 := (coarse_le _ _ _).trans_lt (by norm_num)
  rw [← coarse_eq, ← coarse_eq, ← coarse_eq, ← State.liveMass_eq]
  refine ⟨State.gauge_field (pre := [_, _, _, _, _, _, _]) rfl hcycle rfl,
    State.gauge_field (pre := [_, _, _, _, _, _, _, _]) rfl hremaining rfl,
    State.gauge_field (pre := [_, _, _, _, _, _, _, _, _]) rfl hmass rfl,
    State.gauge_field (pre := [_, _, _, _, _, _, _, _, _, _]) rfl htotal rfl, ?_,
    State.gauge_field (pre := [_, _, _, _, _, _, _, _, _, _, _, _]) (post := []) rfl (by norm_num) rfl⟩
  rw [State.gaugeFrame_eq]
  exact s.displayFrame_field 1 (s.gaugeFields.take 11) 5 s.lac.load.buckets.length [(1, 0)] s.gaugeFields_width

/-- Settles O53. -/
theorem gaugeExpiryOffersOneFrame : Obligations.GaugeExpiryOffersOneFrame := by
  unfold Obligations.GaugeExpiryOffersOneFrame
  intro x r s hx hreached hr hperiod
  have hgauge : s.gaugePeriod = r.gaugePeriod := by simp [State.gaugePeriod, hr]
  have hexec : exec .gaugeTimerExpiry s = .next (s.gaugeExpiry x) := by
    simp only [exec, execGaugeTimerExpiry, hx, State.due_of_reached hreached]
  obtain ⟨hid, hbody, hlen, -⟩ := s.displayFrame_word 1 s.gaugeFields
  obtain ⟨hbyte0, hbyte7, htoggle⟩ := s.displayFrame_bytes 1 s.gaugeFields
  rw [← s.gaugeFrame_eq] at hid hbody hlen hbyte0 hbyte7 htoggle
  obtain ⟨hcode, h5, h10, hinvalid, hoverload, hdeferred, harmed⟩ := s.gauge_fields
  obtain ⟨hcycle, hremaining, hmass, htotal, hcount, h63⟩ := s.gauge_values
  have hshape : s.gaugeExpiry x = _ := State.offerG_shape s.gaugeFrame (s.modCport fun p =>
    { p with gauge := if s.gaugePeriod ≠ 0 then some (Time.plus x s.gaugePeriod) else none })
  have hframe : s.gaugeFrame = dataFrame (0x0C7A0100#29 + s.mgt.node.setWidth 29) (frameBytes s.gaugeFrame) := rfl
  refine ⟨s.gaugeExpiry x, frameBytes s.gaugeFrame, hexec, hlen, ?_, ?_, ?_, ?_, ?_, h5, h10, ?_, hoverload, hdeferred,
    harmed, hcycle, ?_, hmass, htotal, hcount, ?_, ?_, ?_, ?_, ?_⟩
  · rw [Bool.eq_false_iff, ne_eq, htoggle, h63]
    decide
  · rw [hshape]
    exact if_pos (hgauge ▸ hperiod) |>.trans (by rw [hgauge])
  · rw [← hframe]
    exact State.offerG_queue _ _
  · rw [hbyte0, hcode]
    rfl
  · rw [hbyte7, hcount, h63, Nat.mul_zero, Nat.add_zero]
  · rw [hinvalid, ← Sig.anyNotValid_iff]
    cases s.sig.anyNotValid <;> decide
  · dsimp only
    rw [hremaining, State.remainingField_eq]
  all_goals rw [hshape]; rfl

end Sys2Proof.Machine
end

section
/-! OPEN_LOAD and LOAD_DATA (R190, R191). -/
namespace Sys2Proof.Machine

/-! ### The checks of OPEN_LOAD -/

theorem tableOf_code (k : Table) : tableOf k.code = some k := by cases k <;> rfl

theorem tableOf_of_high {n : Nat} (h : 8 ≤ n) : tableOf n = none := by
  match n, h with
  | n + 8, _ => rfl

theorem Table.writable_iff (k : Table) (m : Mode) : k.writable m = true ↔ m = .config ∨ k = .material := by
  simp [Table.writable, or_comm]

theorem Table.runFits_iff (k : Table) (first count : Nat) :
    k.runFits first count = true ↔ 1 ≤ count ∧ first + count ≤ k.entries ∧ count * k.bytes ≤ 512 := by
  simp only [Table.runFits, Bool.and_eq_true, decide_eq_true_eq, and_assoc]
  exact Iff.rfl

theorem State.heldByOther_eq_true {s : State} {a : Assembly} {p : Port} (h : s.mgt.assembly = some a)
    (ho : a.owner ≠ p) : s.heldByOther p = true := by
  simp [State.heldByOther, h, ho]

theorem State.heldByOther_eq_false {s : State} {p : Port} (h : ∀ a, s.mgt.assembly = some a → a.owner = p) :
    s.heldByOther p = false := by
  unfold State.heldByOther
  split
  · rename_i a ha
    simp [h a ha]
  · rfl

theorem State.curveOpenFault_of_other {k : Table} (h : ¬ (k = .curveE ∨ k = .curveL)) (first count : Nat) (s : State) :
    s.curveOpenFault k first count = none := by
  cases k with
  | curveE => exact absurd (.inl rfl) h
  | curveL => exact absurd (.inr rfl) h
  | fat | sxt | machine | bands | material | lines => rfl

theorem State.curveOpenFault_of_absent {k : Table} (h : k = .curveE ∨ k = .curveL) {s : State}
    (hr : s.wen.record = none) (first count : Nat) : s.curveOpenFault k first count = some (.notReady, [1]) := by
  obtain rfl | rfl := h <;> simp only [State.curveOpenFault, hr] <;> rfl

theorem State.curveOpenFault_of_present {k : Table} (h : k = .curveE ∨ k = .curveL) {s : State} {r : MachineRecord}
    (hr : s.wen.record = some r) (first count : Nat) :
    s.curveOpenFault k first count = if first = 0 ∧ count = r.n then none else some (.badArg, []) := by
  have hrun : curveRun r first count = true ↔ first = 0 ∧ count = r.n := by simp [curveRun]
  obtain rfl | rfl := h <;> simp only [State.curveOpenFault, hr, hrun]

section
variable {p : Port} {s : State} {k : Table} {table : Byte} (tag first count : Byte)

theorem exec_openLoad (hr : s.hasRoom p = true) :
    exec (.openLoad p tag table first count) s = .next (s.openLoad p tag table first count) := by
  rw [exec_request_of_room rfl hr]
  rfl

/-- OPEN_LOAD answers the first check that fails. -/
theorem exec_openLoad_of_error (hr : s.hasRoom p = true) {st : Status} {results : List Byte}
    (h : s.openCheck p table.toNat first.toNat count.toNat = .error (st, results)) :
    exec (.openLoad p tag table first count) s = .next (s.respond p 0x11 tag st results) := by
  rw [exec_openLoad tag first count hr]
  simp only [State.openLoad, h]

theorem exec_openLoad_of_ok (hr : s.hasRoom p = true)
    (h : s.openCheck p table.toNat first.toNat count.toNat = .ok k) :
    exec (.openLoad p tag table first count) s =
      .next ((s.setAssembly (some (Assembly.start p k first.toNat count.toNat s.time))).respond p 0x11 tag .ok
        (leBytes 2 (count.toNat * k.bytes) ++ leBytes 1 ((count.toNat * k.bytes + 4) / 5))) := by
  rw [exec_openLoad tag first count hr]
  simp only [State.openLoad, h]

end

/-- Checks 2 to 5 on a table that the code names. -/
theorem State.openCheck_eq {k : Table} {code : Nat} (h : code = k.code) (p : Port) (first count : Nat) (s : State) :
    s.openCheck p code first count =
      if s.heldByOther p then .error (.owned, [])
      else if k.writable s.mgt.mode = false then .error (.refusedMode, [])
      else if k.runFits first count = false then .error (.badArg, [])
      else (s.curveOpenFault k first count).elim (.ok k) .error := by
  simp only [State.openCheck, h, tableOf_code]
  cases s.curveOpenFault k first count <;> rfl

/-! ### LOAD_DATA -/

theorem exec_loadData {p : Port} {s : State} (hr : s.hasRoom p = true) (tag seq : Byte) (payload : Vector Byte 5) :
    exec (.loadData p tag seq payload) s = .next (s.loadData p tag seq payload.toList) := by
  rw [exec_request_of_room rfl hr]
  rfl

/-- A frame out of turn or past the declared total makes the load FAILED; any other is appended (R191). -/
theorem Assembly.afterData_of_bad {a : Assembly} {seq : Byte} (h : seq ≠ a.expected ∨ a.received.length = a.declared)
    (payload : List Byte) (t : Time) : a.afterData seq payload t = { a with failed := true } := if_pos h

theorem Assembly.afterData_of_good {a : Assembly} {seq : Byte} (he : seq = a.expected)
    (hl : a.received.length < a.declared) {payload : List Byte} (hp : payload.length = 5) (t : Time) :
    a.afterData seq payload t =
      { a with received := a.received ++ payload.take (min 5 (a.declared - a.received.length)),
               expected := a.expected + 1, timeout := Time.plus t 500 } := by
  have hgood : ¬ (seq ≠ a.expected ∨ a.received.length = a.declared) := by
    rintro (hne | heq)
    · exact hne he
    · omega
  have htake : payload.take (a.declared - a.received.length) =
      payload.take (min 5 (a.declared - a.received.length)) := by
    rw [← hp, List.take_eq_take_min, min_comm]
  rw [Assembly.afterData, if_neg hgood, htake]
  rfl

/-- Settles O56. -/
theorem openLoadAndLoadDataFillTheBuffer : Obligations.OpenLoadAndLoadDataFillTheBuffer := by
  unfold Obligations.OpenLoadAndLoadDataFillTheBuffer
  refine ⟨fun p tag table first count s hr => ⟨fun hbad => ?_, fun k hk => ?_⟩, fun p tag seq payload s hr => ?_⟩
  · refine exec_openLoad_of_error tag first count hr ?_
    simp only [State.openCheck, tableOf_of_high hbad]
  · have hcheck := State.openCheck_eq hk p first.toNat count.toNat s
    refine ⟨fun a ha ho => ?_, fun hown hm hne => ?_, fun hown hw => ⟨fun hfit => ?_, fun hc hle hbytes => ?_⟩⟩
    · refine exec_openLoad_of_error tag first count hr (hcheck.trans ?_)
      rw [State.heldByOther_eq_true ha ho]
      rfl
    · refine exec_openLoad_of_error tag first count hr (hcheck.trans ?_)
      have hno : k.writable s.mgt.mode = false :=
        Bool.eq_false_iff.2 fun hw => ((k.writable_iff _).1 hw).elim hm hne
      rw [State.heldByOther_eq_false hown, hno]
      rfl
    · refine exec_openLoad_of_error tag first count hr (hcheck.trans ?_)
      have hno : k.runFits first.toNat count.toNat = false := by
        refine Bool.eq_false_iff.2 fun hruns => ?_
        obtain ⟨h1, h2, h3⟩ := (k.runFits_iff _ _).1 hruns
        rcases hfit with rfl | h | h
        · simp at h1
        · omega
        · omega
      rw [State.heldByOther_eq_false hown, (k.writable_iff _).2 hw, hno]
      rfl
    · have hcount : 1 ≤ count.toNat := by
        refine Nat.one_le_iff_ne_zero.2 fun h0 => hc (BitVec.eq_of_toNat_eq h0)
      rw [State.heldByOther_eq_false hown, (k.writable_iff _).2 hw,
        (k.runFits_iff _ _).2 ⟨hcount, hle, hbytes⟩] at hcheck
      intro curve opened
      refine ⟨fun hcurve hrec => ?_, fun r hcurve hrec hne => ?_, fun hok => ?_⟩
      · rw [State.curveOpenFault_of_absent hcurve hrec] at hcheck
        exact exec_openLoad_of_error tag first count hr hcheck
      · have hno : ¬ (first.toNat = 0 ∧ count.toNat = r.n) := by
          rintro ⟨h0, hn⟩
          exact hne.elim (fun h => h (BitVec.eq_of_toNat_eq h0)) (fun h => h hn)
        rw [State.curveOpenFault_of_present hcurve hrec, if_neg hno] at hcheck
        exact exec_openLoad_of_error tag first count hr hcheck
      · have hnone : s.curveOpenFault k first.toNat count.toNat = none := by
          by_cases hcurve : curve
          · obtain ⟨r, hrec, rfl, hn⟩ := hok.resolve_left (not_not.2 hcurve)
            rw [State.curveOpenFault_of_present hcurve hrec]
            exact if_pos ⟨rfl, hn⟩
          · exact State.curveOpenFault_of_other hcurve _ _ s
        rw [hnone] at hcheck
        exact exec_openLoad_of_ok tag first count hr hcheck
  · rw [exec_loadData hr]
    refine ⟨fun hfree => ?_, fun a ha => ⟨fun ho => ?_, fun ho hf => ?_, fun ho hf hbad => ?_, fun ho hf hs hl => ?_⟩⟩
    · simp only [State.loadData, hfree]
    · simp only [State.loadData, ha, if_pos ho]
    · simp only [State.loadData, ha, if_neg (not_not.2 ho), if_pos hf]
      rfl
    · simp only [State.loadData, ha, if_neg (not_not.2 ho), hf, Assembly.afterData_of_bad hbad]
      rfl
    · simp only [State.loadData, ha, if_neg (not_not.2 ho), hf,
        Assembly.afterData_of_good hs hl (Vector.length_toList (xs := payload))]
      rfl

end Sys2Proof.Machine
end

section
/-! CLOSE_LOAD: its checks, and the entries of a run (R192, R193). -/
namespace Sys2Proof.Machine

/-! ### The entries of a run -/

theorem chunks_getElem? (size : Nat) (bytes : List Byte) {n j : Nat} (h : j < n) :
    (chunks size bytes n)[j]? = some (slice bytes (j * size) size) := by
  induction n generalizing bytes j with
  | zero => exact absurd h (Nat.not_lt_zero j)
  | succ n ih =>
    cases j with
    | zero => simp [chunks, slice]
    | succ j =>
      have htail := ih (bytes.drop size) (Nat.lt_of_succ_lt_succ h)
      simp only [chunks, List.getElem?_cons_succ, htail, slice, List.drop_drop, Nat.succ_mul, Nat.add_comm size]

section
variable {α : Type} {decode : List Byte → Option α} {ok : Nat → α → Bool}

/-- A run whose every entry decodes and passes its check comes to its entries. -/
theorem checkRun_eq_ok_of {cs : List (List Byte)} {xs : List α} (i : Nat) (hlen : xs.length = cs.length)
    (h : ∀ j x, xs[j]? = some x → ∃ c, cs[j]? = some c ∧ decode c = some x ∧ ok (i + j) x = true) :
    checkRun decode ok i cs = .ok xs := by
  induction cs generalizing xs i with
  | nil => rw [List.length_eq_zero_iff.1 hlen, checkRun]
  | cons c cs ih =>
    cases xs with
    | nil => simp at hlen
    | cons x xs =>
      obtain ⟨c', hc, hx, hok⟩ := h 0 x rfl
      obtain rfl : c = c' := by simpa using hc
      have htail := ih (i + 1) (Nat.succ.inj hlen) fun j y hy => by
        obtain ⟨d, hd, hy, hok⟩ := h (j + 1) y (by simpa using hy)
        exact ⟨d, by simpa using hd, hy, by rwa [Nat.add_assoc, Nat.add_comm 1 j]⟩
      rw [Nat.add_zero] at hok
      simp only [checkRun, hx, hok, if_true, htail]

/-- A run whose first bad entry is the j-th comes to that entry's index. -/
theorem checkRun_eq_error_of {cs : List (List Byte)} {j : Nat} (i : Nat)
    (hgood : ∀ k, k < j → ∃ c x, cs[k]? = some c ∧ decode c = some x ∧ ok (i + k) x = true)
    (hbad : ∃ c, cs[j]? = some c ∧ ∀ x, decode c = some x → ok (i + j) x = false) :
    checkRun decode ok i cs = .error (i + j) := by
  induction cs generalizing i j with
  | nil =>
    obtain ⟨c, hc, -⟩ := hbad
    simp at hc
  | cons c cs ih =>
    cases j with
    | zero =>
      obtain ⟨c', hc, hno⟩ := hbad
      obtain rfl : c = c' := by simpa using hc
      unfold checkRun
      split
      · rfl
      · rename_i x hx
        exact if_neg (Bool.eq_false_iff.1 (hno x hx))
    | succ j =>
      obtain ⟨c', x, hc, hx, hok⟩ := hgood 0 (Nat.succ_pos j)
      obtain rfl : c = c' := by simpa using hc
      obtain ⟨d, hd, hno⟩ := hbad
      have hmove (k : Nat) : i + 1 + k = i + (k + 1) := by omega
      have htail := ih (i + 1) (fun k hk => by
        obtain ⟨d, y, hd, hy, hok⟩ := hgood (k + 1) (Nat.succ_lt_succ hk)
        exact ⟨d, y, by simpa using hd, hy, by rwa [hmove]⟩) ⟨d, by simpa using hd, by rwa [hmove]⟩
      rw [Nat.add_zero] at hok
      simp only [checkRun, hx, hok, if_true, htail, hmove]

variable {a : Assembly} {good : Nat → α → Prop}

/-- What check 4 makes of a run in the words of the statements. -/
theorem Assembly.Holds.checkRun {xs : List α} (h : a.Holds decode good xs)
    (hok : ∀ i x, good i x → ok i x = true) :
    checkRun decode ok a.first (chunks a.table.bytes a.received a.count) = .ok xs := by
  obtain ⟨hlen, hall⟩ := h
  refine checkRun_eq_ok_of _ (by simpa using hlen) fun j x hx => ?_
  obtain ⟨hdecode, hgood⟩ := hall j x hx
  have hj : j < a.count := by
    rw [← hlen]
    exact (List.getElem?_eq_some_iff.1 hx).1
  exact ⟨_, chunks_getElem? _ _ hj, hdecode, hok _ _ hgood⟩

theorem Assembly.BreaksAt.checkRun {j : Nat} (h : a.BreaksAt decode good j)
    (hok : ∀ i x, i < a.first + a.count → (ok i x = true ↔ good i x)) :
    checkRun decode ok a.first (chunks a.table.bytes a.received a.count) = .error (a.first + j) := by
  obtain ⟨hj, hgood, hbad⟩ := h
  refine checkRun_eq_error_of _ (fun k hk => ?_) ⟨_, chunks_getElem? _ _ hj, fun x hx => ?_⟩
  · obtain ⟨x, hx, hgood⟩ := hgood k hk
    exact ⟨_, x, chunks_getElem? _ _ (hk.trans hj), hx, (hok _ _ (by omega)).2 hgood⟩
  · exact Bool.eq_false_iff.2 fun hok' => hbad x hx ((hok _ _ (by omega)).1 hok')

end

/-! ### CLOSE_LOAD -/

section
variable {p : Port} {s : State} {a : Assembly} (tag : Byte)

theorem exec_closeLoad (hr : s.hasRoom p = true) (crc : Byte) :
    exec (.closeLoad p tag crc) s = .next (s.closeLoad p tag crc) := by
  rw [exec_request_of_room rfl hr]
  rfl

/-- A load that passed checks 1 to 3 frees the buffer and comes to check 4. -/
theorem exec_closeLoad_of_ready (hr : s.hasRoom p = true) {crc : Byte} (h : s.ReadyToClose p crc a) :
    exec (.closeLoad p tag crc) s = .next (s.finishLoad p tag a) := by
  have hwritable : ¬ a.table.writable s.mgt.mode = false := by
    rw [Bool.not_eq_false, Table.writable_iff]
    exact h.writable
  rw [exec_closeLoad tag hr]
  simp only [State.closeLoad, h.assembly, if_neg (not_not.2 h.owner), h.isOpen, Bool.false_eq_true, if_false,
    if_neg hwritable, if_neg (not_not.2 h.received), if_neg (not_not.2 h.crc)]

/-- Check 4 passed: the run is written and OK answered. -/
theorem State.finishLoad_of_written {w : State}
    (h : (s.setAssembly none).writeTable a.table a.first (chunks a.table.bytes a.received a.count) = .written w) :
    s.finishLoad p tag a = w.respond p 0x13 tag .ok [] := by
  simp only [State.finishLoad, h]

theorem State.finishLoad_of_badEntry {i : Nat}
    (h : (s.setAssembly none).writeTable a.table a.first (chunks a.table.bytes a.received a.count) = .badEntry i) :
    s.finishLoad p tag a = (s.setAssembly none).respond p 0x13 tag .badEntry [BitVec.ofNat 8 i] := by
  simp only [State.finishLoad, h]
  rfl

theorem State.finishLoad_of_conflict {i : Nat}
    (h : (s.setAssembly none).writeTable a.table a.first (chunks a.table.bytes a.received a.count) = .conflict i) :
    s.finishLoad p tag a = (s.setAssembly none).respond p 0x13 tag .conflict [BitVec.ofNat 8 i] := by
  simp only [State.finishLoad, h]
  rfl

end

/-! ### MATERIAL -/

/-- A MATERIAL run by its check (R126). -/
theorem State.writeTable_material (first : Nat) (cs : List (List Byte)) (s : State) :
    s.writeTable .material first cs = match checkRun decodeMaterial (fun i rho => s.lac.materialOk i rho) first cs with
      | .error i => .badEntry i
      | .ok xs => .written (s.modLac fun l => { l with materials := writeRun l.materials first xs }) := rfl

theorem within_iff (lo hi v : Int) : within lo hi v = true ↔ lo ≤ v ∧ v ≤ hi := by simp [within]

/-- The check of a density: in its range, or 0 for an unused material or one not in use (R126). -/
theorem Lac.materialOk_iff (l : Lac) (i rho : Nat) : l.materialOk i rho = true ↔
    500 ≤ rho ∧ rho ≤ 5000 ∨ rho = 0 ∧ (l.inUse i = true → l.materials.toList.getD i 0 = 0) := by
  unfold Lac.materialOk
  rw [Bool.and_eq_true, Bool.or_eq_true, within_iff, Bool.not_eq_true', Bool.and_eq_false_iff, Bool.and_eq_false_iff,
    decide_eq_true_iff, decide_eq_false_iff_not, decide_eq_false_iff_not]
  cases l.inUse i <;> simp <;> omega

/-- Settles O57. -/
theorem closeLoadChecksInOrder : Obligations.CloseLoadChecksInOrder := by
  unfold Obligations.CloseLoadChecksInOrder
  refine ⟨fun a s ha hreached => ?_, fun p tag crc s hr => ?_⟩
  · simp only [exec, execLoadTimeout, ha, Option.map_some, State.due_of_reached hreached]
    rfl
  · rw [exec_closeLoad tag hr]
    refine ⟨fun hfree => ?_, fun a ha => ⟨fun ho => ?_, fun ho hf => ?_, fun ho hf => ⟨fun hm hne => ?_, fun hw =>
      ⟨fun hl => ?_, fun hl hcrc => ?_, fun hl hcrc htable hcount hdeclared k hk => ?_⟩⟩⟩⟩
    · simp only [State.closeLoad, hfree]
    · simp only [State.closeLoad, ha, if_pos ho]
    · simp only [State.closeLoad, ha, if_neg (not_not.2 ho), if_pos hf]
      rfl
    · have hno : a.table.writable s.mgt.mode = false :=
        Bool.eq_false_iff.2 fun hw => ((a.table.writable_iff _).1 hw).elim hm hne
      simp only [State.closeLoad, ha, if_neg (not_not.2 ho), hf, hno]
      rfl
    · simp only [State.closeLoad, ha, if_neg (not_not.2 ho), hf, (a.table.writable_iff _).2 hw, if_pos hl]
      rfl
    · simp only [State.closeLoad, ha, if_neg (not_not.2 ho), hf, (a.table.writable_iff _).2 hw, if_neg (not_not.2 hl),
        if_pos hcrc]
      rfl
    · intro rho
      have hready : s.ReadyToClose p crc a :=
        ⟨ha, ho, hf, hw, by rw [hdeclared, hcount, htable]; rfl, hl, hcrc⟩
      have hentry : decodeMaterial (a.entry 0) = some rho := by
        simp only [decodeMaterial, Assembly.entry, slice, htable, Table.bytes, Nat.zero_mul, List.drop_zero,
          List.take_take, rho]
        rfl
      rw [← exec_closeLoad tag hr, exec_closeLoad_of_ready tag hr hready]
      refine ⟨fun _ hlo hhi => congrArg Host.Outcome.next ?_, fun hbad => congrArg Host.Outcome.next ?_⟩
      · have hholds : a.Holds decodeMaterial (fun _ rho => 500 ≤ rho ∧ rho ≤ 5000) [rho] := by
          refine ⟨hcount.symm, fun j x hx => ?_⟩
          obtain ⟨rfl, rfl⟩ : j = 0 ∧ rho = x := by
            cases j with
            | zero => exact ⟨rfl, by simpa using hx⟩
            | succ j => simp at hx
          exact ⟨hentry, hlo, hhi⟩
        have hrun := hholds.checkRun (ok := fun i rho => (s.setAssembly none).lac.materialOk i rho)
          fun i x hx => (Lac.materialOk_iff _ _ _).2 (.inl hx)
        have hmaterials : writeRun s.lac.materials a.first [rho] = s.lac.materials.set k rho := by
          rw [hk]
          refine Vector.ext fun i hi => ?_
          rw [Vector.getElem_set]
          exact Vector.getElem_setIfInBounds _
        have hwrite : (s.setAssembly none).writeTable a.table a.first (chunks a.table.bytes a.received a.count) =
            .written ((s.setAssembly none).modLac fun l =>
                { l with materials := writeRun l.materials a.first [rho] }) := by
          simp only [htable] at hrun ⊢
          rw [State.writeTable_material, hrun]
        rw [State.finishLoad_of_written tag hwrite, ← hmaterials]
        rfl
      · have hbreaks : a.BreaksAt decodeMaterial (fun i rho => (s.setAssembly none).lac.materialOk i rho = true) 0 := by
          refine ⟨hcount ▸ Nat.one_pos, fun i hi => absurd hi (Nat.not_lt_zero i), fun x hx => ?_⟩
          obtain rfl : rho = x := Option.some.inj (hentry.symm.trans hx)
          refine mt (Lac.materialOk_iff _ _ _).1 ?_
          omega
        have hrun := hbreaks.checkRun fun _ _ _ => Iff.rfl
        have hwrite : (s.setAssembly none).writeTable a.table a.first (chunks a.table.bytes a.received a.count) =
            .badEntry (a.first + 0) := by
          simp only [htable] at hrun ⊢
          rw [State.writeTable_material, hrun]
        rw [State.finishLoad_of_badEntry tag hwrite, hk]
        rfl

end Sys2Proof.Machine
end

section
/-! CLOSE_LOAD of FAT, BANDS, MATERIAL and LINES (R20, R65, R126, R127, R144, R145, R193). -/
namespace Sys2Proof.Machine

/-- The state that comes to check 4: the buffer is free (R193). -/
def State.unassembled (s : State) : State := { s with mgt := { s.mgt with assembly := none } }

section
variable {p : Port} {s : State} {a : Assembly} (tag : Byte)

theorem exec_closeLoad_of_written (hr : s.hasRoom p = true) {crc : Byte} (h : s.ReadyToClose p crc a) {w : State}
    (hw : s.unassembled.writeTable a.table a.first (chunks a.table.bytes a.received a.count) = .written w) :
    exec (.closeLoad p tag crc) s = .next (w.respond p 0x13 tag .ok []) := by
  rw [exec_closeLoad_of_ready tag hr h, State.finishLoad_of_written tag hw]

theorem exec_closeLoad_of_badEntry (hr : s.hasRoom p = true) {crc : Byte} (h : s.ReadyToClose p crc a) {i : Nat}
    (hw : s.unassembled.writeTable a.table a.first (chunks a.table.bytes a.received a.count) = .badEntry i) :
    exec (.closeLoad p tag crc) s = .next (s.unassembled.respond p 0x13 tag .badEntry [BitVec.ofNat 8 i]) := by
  rw [exec_closeLoad_of_ready tag hr h, State.finishLoad_of_badEntry tag hw]
  rfl

end

/-! ### FAT (R13, R20) -/

/-- The checks of R13 on one entry. -/
theorem FatEntry.ok_iff (e : FatEntry) : e.ok = true ↔
    e.interval ≤ 2550 ∧ (e.extract = true → e.ref1 ≠ none ∨ e.ref2 ≠ none) ∧
    (e.extract = false → e.ref1 = none ∧ e.ref2 = none) ∧ (e.ref1 ≠ none → e.ref1 ≠ e.ref2) ∧
    (e.forward = false → e.interval = 0) := by
  have hnone {β : Type} (o : Option β) : o.isNone = true ↔ o = none := Option.isNone_iff_eq_none
  simp only [FatEntry.ok, Bool.and_eq_true, Bool.or_eq_true, decide_eq_true_iff, Bool.not_eq_true',
      Option.isSome_iff_ne_none,
    hnone]
  cases e.extract <;> cases e.forward <;> simp [and_assoc, or_iff_not_imp_left]

/-! ### BANDS (R65) -/

/-- A band keeps the checks of R65 behind the bands `pre`. -/
def Band.KeptAfter (pre : List Band) (b : Band) : Prop :=
  b.upper ≤ 6000 ∧ -200 ≤ b.correction ∧ b.correction ≤ 200 ∧
    (b.upper ≠ 0 → ∀ c ∈ pre, c.upper ≠ 0 ∧ c.upper < b.upper)

/-- What the scan carries refuses the used bounds that the bands `pre` refuse. -/
def BandScan (pre : List Band) (prev : Nat) (seen : Bool) : Prop :=
  ∀ x, x ≠ 0 → (seen = true ∨ x ≤ prev ↔ ∃ c ∈ pre, c.upper = 0 ∨ x ≤ c.upper)

theorem bandScan_start : BandScan [] 0 false := fun x hx => by simp [hx]

/-- One entry scanned: the scan ends at an entry that breaks a check, and carries on past one that keeps them. -/
theorem bandsFailure_cons {pre : List Band} {prev : Nat} {seen : Bool} (h : BandScan pre prev seen) (i : Nat) (b : Band)
    (bs : List Band) :
    (¬ b.KeptAfter pre → bandsFailure i prev seen (b :: bs) = some i) ∧
    (b.KeptAfter pre → ∃ prev' seen', bandsFailure i prev seen (b :: bs) = bandsFailure (i + 1) prev' seen' bs ∧
      BandScan (pre ++ [b]) prev' seen') := by
  by_cases hrange : 6000 < b.upper ∨ b.correction < -200 ∨ 200 < b.correction
  · refine ⟨fun _ => if_pos hrange, fun ⟨hu, hlo, hhi, _⟩ => ?_⟩
    omega
  · by_cases hzero : b.upper = 0
    · have hkept : b.KeptAfter pre := ⟨by omega, by omega, by omega, fun hne => absurd hzero hne⟩
      refine ⟨fun hno => absurd hkept hno, fun _ => ⟨prev, true, (if_neg hrange).trans (if_pos hzero), fun x _ => ?_⟩⟩
      exact iff_of_true (.inl rfl) ⟨b, by simp, .inl hzero⟩
    · have hscan := h b.upper hzero
      by_cases hbad : seen = true ∨ b.upper ≤ prev
      · refine ⟨fun _ => (if_neg hrange).trans ((if_neg hzero).trans (if_pos hbad)), fun ⟨_, _, _, hkept⟩ => ?_⟩
        obtain ⟨c, hc, hcb⟩ := hscan.1 hbad
        have := hkept hzero c hc
        omega
      · have hless : ∀ c ∈ pre, c.upper ≠ 0 ∧ c.upper < b.upper := fun c hc => by
          have := mt hscan.2 hbad
          have hno : ¬ (c.upper = 0 ∨ b.upper ≤ c.upper) := fun hcb => this ⟨c, hc, hcb⟩
          omega
        refine ⟨fun hno => absurd ⟨by omega, by omega, by omega, fun _ => hless⟩ hno, fun _ =>
          ⟨b.upper, false, (if_neg hrange).trans ((if_neg hzero).trans (if_neg hbad)), fun x hx => ⟨fun hle => ?_, ?_⟩⟩⟩
        · exact ⟨b, by simp, .inr (hle.resolve_left Bool.false_ne_true)⟩
        · rintro ⟨c, hc, hcx⟩
          refine .inr ?_
          rcases List.mem_append.1 hc with hc | hc
          · have := hless c hc
            omega
          · obtain rfl := List.mem_singleton.1 hc
            omega

theorem bandsFailure_eq_none_of {pre : List Band} {prev : Nat} {seen : Bool} (h : BandScan pre prev seen) (i : Nat)
    {bs : List Band} (hall : ∀ (k : Nat) (hk : k < bs.length), bs[k].KeptAfter (pre ++ bs.take k)) :
    bandsFailure i prev seen bs = none := by
  induction bs generalizing pre prev seen i with
  | nil => rfl
  | cons b bs ih =>
    obtain ⟨prev', seen', hstep, hscan⟩ := (bandsFailure_cons h i b bs).2 (by
      have := hall 0 (Nat.succ_pos _)
      rwa [List.take_zero, List.append_nil] at this)
    rw [hstep]
    exact ih hscan (i + 1) fun k hk => by
      have := hall (k + 1) (Nat.succ_lt_succ hk)
      rwa [List.take_succ_cons, List.append_cons] at this

theorem bandsFailure_eq_some_of {pre : List Band} {prev : Nat} {seen : Bool} (h : BandScan pre prev seen) (i : Nat)
    {bs : List Band} {k : Nat} (hk : k < bs.length) (hbad : ¬ bs[k].KeptAfter (pre ++ bs.take k))
    (hbefore : ∀ (j : Nat) (hj : j < bs.length), j < k → bs[j].KeptAfter (pre ++ bs.take j)) :
    bandsFailure i prev seen bs = some (i + k) := by
  induction bs generalizing pre prev seen i k with
  | nil => simp at hk
  | cons b bs ih =>
    cases k with
    | zero => exact (bandsFailure_cons h i b bs).1 (by simpa using hbad)
    | succ k =>
      obtain ⟨prev', seen', hstep, hscan⟩ := (bandsFailure_cons h i b bs).2 (by
        have := hbefore 0 (Nat.succ_pos _) (Nat.succ_pos k)
        rwa [List.take_zero, List.append_nil] at this)
      rw [List.take_succ_cons, List.append_cons] at hbad
      have hlater := ih hscan (i + 1) (Nat.lt_of_succ_lt_succ hk) hbad fun j hj hjk => by
        have := hbefore (j + 1) (Nat.succ_lt_succ hj) (Nat.succ_lt_succ hjk)
        rwa [List.take_succ_cons, List.append_cons] at this
      rw [hstep, hlater, Nat.add_assoc, Nat.add_comm 1 k]

/-- A band is allowed in its table exactly behind the bands of lower index. -/
theorem bandAllowed_iff (v : Vector Band 8) (k : Fin 8) :
    bandAllowed v k ↔ v[k].KeptAfter (v.toList.take k) := by
  have hmem : (∀ c ∈ v.toList.take k, c.upper ≠ 0 ∧ c.upper < v[k].upper) ↔
      ∀ j : Fin 8, j < k → v[j].upper ≠ 0 ∧ v[j].upper < v[k].upper := by
    constructor
    · intro h j hj
      refine h _ (List.mem_take_iff_getElem.2 ⟨j, ?_, rfl⟩)
      simp
      omega
    · intro h c hc
      obtain ⟨j, hj, rfl⟩ := List.mem_take_iff_getElem.1 hc
      exact h ⟨j, by omega⟩ (Fin.lt_def.2 (show j < k.val by omega))
  rw [bandAllowed, Band.KeptAfter, hmem]

theorem bandsFailure_eq_none_of_allowed {v : Vector Band 8} (h : ∀ k, bandAllowed v k) :
    bandsFailure 0 0 false v.toList = none :=
  bandsFailure_eq_none_of bandScan_start 0 fun k hk =>
    (bandAllowed_iff v ⟨k, by simpa using hk⟩).1 (h _)

theorem bandsFailure_eq_some_of_first {v : Vector Band 8} {k : Fin 8} (hbad : ¬ bandAllowed v k)
    (hbefore : ∀ j, j < k → bandAllowed v j) : bandsFailure 0 0 false v.toList = some k.val := by
  have := bandsFailure_eq_some_of bandScan_start 0 (bs := v.toList) (k := k) (by simp)
    (mt (bandAllowed_iff v k).2 hbad)
    fun j hj hjk => (bandAllowed_iff v ⟨j, by simpa using hj⟩).1 (hbefore _ hjk)
  rwa [Nat.zero_add] at this

/-! ### A written run -/

theorem writeRun_eq_of {α : Type} {n : Nat} {v w : Vector α n} {first : Nat} {xs : List α}
    (h : ∀ i : Fin n, w[i] = if first ≤ i.val then xs.getD (i.val - first) v[i] else v[i]) :
    writeRun v first xs = w :=
  Vector.ext fun i hi => (writeRun_getElem v first xs i hi).trans (h ⟨i, hi⟩).symm

/-! ### MATERIAL (R126) -/

theorem Lac.inUse_iff (l : Lac) (i : Nat) :
    l.inUse i = true ↔ l.load.material.val = i ∨ l.nextMaterial.map (·.val) = some i := by
  rw [Lac.inUse, Bool.or_eq_true, decide_eq_true_iff, decide_eq_true_iff]

/-- The check of a density at an index of the table. -/
theorem Lac.materialOk_iff_of_lt (l : Lac) (rho : Nat) {i : Nat} (hi : i < 16) : l.materialOk i rho = true ↔
    500 ≤ rho ∧ rho ≤ 5000 ∨ rho = 0 ∧ ∀ k : Fin 16, k.val = i →
      l.load.material = k ∨ l.nextMaterial = some k → l.materials[k] = 0 := by
  have hget : l.materials.toList.getD i 0 = l.materials[i] := by simp [List.getD_eq_getElem?_getD, hi]
  have hnext : l.nextMaterial.map (·.val) = some i ↔ l.nextMaterial = some ⟨i, hi⟩ := by
    rw [Option.map_eq_some_iff]
    exact ⟨fun ⟨k, hk, he⟩ => hk.trans (congrArg some (Fin.ext he)), fun h => ⟨_, h, rfl⟩⟩
  have hload : l.load.material.val = i ↔ l.load.material = ⟨i, hi⟩ := ⟨fun h => Fin.ext h, fun h => congrArg Fin.val h⟩
  rw [Lac.materialOk_iff, Lac.inUse_iff, hget, hnext, hload]
  refine or_congr Iff.rfl (and_congr Iff.rfl ⟨fun h k hk => ?_, fun h => h ⟨i, hi⟩ rfl⟩)
  obtain rfl : k = ⟨i, hi⟩ := Fin.ext hk
  exact h

/-! ### LINES (R144, R145) -/

theorem LineSetting.ok_iff (l : LineSetting) :
    l.ok = true ↔ 10 ≤ l.debounce ∧ l.debounce ≤ 500 ∧ l.debounce % 10 = 0 := by
  simp only [LineSetting.ok, Bool.and_eq_true, decide_eq_true_iff, and_assoc]

/-- A written run of settings sets the lines it names. -/
theorem setLines_getElem (v : Vector Line 4) (first : Nat) (xs : List LineSetting) (i : Nat) (hi : i < 4) :
    (setLines v first xs)[i] = ((if first ≤ i then xs[i - first]? else none).map fun x => v[i].setTo x).getD v[i] := by
  induction xs generalizing v first with
  | nil => simp [setLines]
  | cons x xs ih =>
    rw [setLines, ih]
    rcases lt_trichotomy first i with hlt | rfl | hgt
    · have hsub : i - first = (i - (first + 1)) + 1 := by omega
      have hf : first < 4 := hlt.trans hi
      simp [hf, hlt.le, Nat.succ_le_of_lt hlt, hsub, hlt.ne]
    · simp [hi]
    · by_cases hf : first < 4 <;>
        simp [hf, hgt.ne', Nat.not_le.2 hgt, show ¬ first + 1 ≤ i by omega]

theorem rereadLines_getElem (v : Vector Line 4) (i : Nat) (hi : i < 4) : (rereadLines v)[i] = v[i].reread := by
  match i, hi with
  | 0, _ => rfl
  | 1, _ => rfl
  | 2, _ => rfl
  | 3, _ => rfl

/-- With no load of the machine port, the SERVICE level alone is settled (R149, R196). -/
theorem State.settleService_of_cab {s : State} (h : ∀ a, s.mgt.assembly = some a → a.owner = .cab) :
    s.settleService = { s with din := { s.din with service := s.din.serviceLevel } } := by
  have hfree : (s.modDin fun d => { d with service := s.din.serviceLevel }).modMgt Mgt.freeMachineLoad =
      s.modDin fun d => { d with service := s.din.serviceLevel } :=
    congrArg (fun m => { s with din := { s.din with service := s.din.serviceLevel }, mgt := m })
      (Mgt.freeMachineLoad_of_cab h)
  unfold State.settleService
  dsimp only
  rw [hfree]
  exact ite_self _

/-! ### The obligation -/

section
variable {p : Port} {s : State} {a : Assembly} {crc : Byte} (tag : Byte) {α : Type} {decode : List Byte → Option α}
  {ok : Nat → α → Bool} {good : Nat → α → Prop}

/-- The first bad entry of a run refuses it. -/
theorem exec_closeLoad_of_breaksAt (hr : s.hasRoom p = true) (h : s.ReadyToClose p crc a) {j : Nat}
    (hbreaks : a.BreaksAt decode good j) (hok : ∀ i x, i < a.first + a.count → (ok i x = true ↔ good i x))
    (hwrite : ∀ cs i, checkRun decode ok a.first cs = .error i →
      s.unassembled.writeTable a.table a.first cs = .badEntry i) :
    exec (.closeLoad p tag crc) s =
      .next (s.unassembled.respond p 0x13 tag .badEntry [BitVec.ofNat 8 (a.first + j)]) :=
  exec_closeLoad_of_badEntry tag hr h (hwrite _ _ (hbreaks.checkRun hok))

theorem checkRun_eq_ok_of_holds {xs : List α} (h : a.Holds decode good xs)
    (hok : ∀ i x, i < a.first + a.count → good i x → ok i x = true) :
    checkRun decode ok a.first (chunks a.table.bytes a.received a.count) = .ok xs := by
  obtain ⟨hlen, hall⟩ := h
  refine Assembly.Holds.checkRun (good := fun i x => good i x ∧ i < a.first + a.count)
    ⟨hlen, fun j x hx => ?_⟩ fun i x hx => hok i x hx.2 hx.1
  obtain ⟨hdecode, hgood⟩ := hall j x hx
  have hj := (List.getElem?_eq_some_iff.1 hx).1
  exact ⟨hdecode, hgood, by omega⟩

/-- A run that holds is written. -/
theorem exec_closeLoad_of_holds (hr : s.hasRoom p = true) (h : s.ReadyToClose p crc a) {xs : List α} {w : State}
    (hholds : a.Holds decode good xs) (hok : ∀ i x, i < a.first + a.count → good i x → ok i x = true)
    (hwrite : ∀ cs, checkRun decode ok a.first cs = .ok xs → s.unassembled.writeTable a.table a.first cs = .written w) :
    exec (.closeLoad p tag crc) s = .next (w.respond p 0x13 tag .ok []) :=
  exec_closeLoad_of_written tag hr h (hwrite _ (checkRun_eq_ok_of_holds hholds hok))

end

/-- Settles O58. -/
theorem closeLoadWritesItsRun : Obligations.CloseLoadWritesItsRun := by
  unfold Obligations.CloseLoadWritesItsRun
  intro p tag crc a s hr hready freed ends breaks
  refine ⟨fun htable => ⟨fun j hj => ?_, fun xs hxs => ⟨writeRun s.fcl.fat a.first xs, fun i => ?_, ?_⟩⟩,
    fun htable xs bands hxs hbands => ?_,
    fun htable => ⟨fun j hle hj => ?_, fun xs hle hxs => ⟨writeRun s.lac.materials a.first xs, fun i => ?_, ?_⟩⟩,
    fun htable => ⟨fun j hj => ?_, fun xs hxs => ?_⟩⟩
  · exact exec_closeLoad_of_breaksAt tag hr hready hj (fun _ e _ => e.ok_iff) fun cs i h => by
      simp only [htable, State.writeTable, h]
  · exact writeRun_getElem _ _ _ _ i.isLt
  · exact exec_closeLoad_of_holds tag hr hready hxs (fun _ e _ => e.ok_iff.2) fun cs h => by
      simp only [htable, State.writeTable, h]
      rfl
  · have hrun : writeRun s.unassembled.wen.bands a.first xs = bands := writeRun_eq_of hbands
    subst hrun
    refine ⟨fun hall => ?_, fun k hbad hbefore => ?_⟩
    · exact exec_closeLoad_of_holds tag hr hready hxs (ok := fun _ _ => true) (fun _ _ _ _ => rfl) fun cs h => by
        simp only [htable, State.writeTable, h, bandsFailure_eq_none_of_allowed hall]
        rfl
    · have hcheck := hxs.checkRun (ok := fun _ _ => true) fun _ _ _ => rfl
      refine exec_closeLoad_of_badEntry tag hr hready ?_
      simp only [htable] at hcheck ⊢
      simp only [State.writeTable, hcheck, bandsFailure_eq_some_of_first hbad hbefore]
  · exact exec_closeLoad_of_breaksAt tag hr hready hj
      (fun i rho hi => s.unassembled.lac.materialOk_iff_of_lt rho (hi.trans_le hle)) fun cs i h => by
      simp only [htable, State.writeTable, h]
  · exact writeRun_getElem _ _ _ _ i.isLt
  · exact exec_closeLoad_of_holds tag hr hready hxs
      (fun i rho hi => (s.unassembled.lac.materialOk_iff_of_lt rho (hi.trans_le hle)).2) fun cs h => by
      simp only [htable, State.writeTable, h]
      rfl
  · exact exec_closeLoad_of_breaksAt tag hr hready hj (fun _ l _ => l.ok_iff) fun cs i h => by
      simp only [htable, State.writeTable, h]
  · have hwritten := exec_closeLoad_of_holds tag hr hready hxs (ok := fun _ l => l.ok) (fun _ l _ => l.ok_iff.2)
      fun cs h => (by simp only [htable, State.writeTable, h] :
        s.unassembled.writeTable a.table a.first cs = .written (s.unassembled.loadLines a.first xs s.unassembled.time))
    refine ⟨rereadLines (setLines s.din.lines a.first xs), _, fun i => ?_, Din.serviceLevel_iff
      { s.din with lines := rereadLines (setLines s.din.lines a.first xs) }, ?_⟩
    · have hget := rereadLines_getElem (setLines s.din.lines a.first xs) i i.isLt
      rw [setLines_getElem] at hget
      refine hget.trans ?_
      cases (if a.first ≤ i.val then xs[i.val - a.first]? else none) <;> rfl
    · intro q keyOff
      have hload : s.unassembled.loadLines a.first xs s.unassembled.time = q.settlePower s.time := by
        rw [State.loadLines, State.settleService_of_cab fun a ha => by cases ha]
        rfl
      have hoff : q.din.keyOff = true ↔ keyOff := q.din.keyOff_iff
      have hpower : q.din.power = s.din.power := rfl
      rw [hload, q.settlePower_eq, hpower] at hwritten
      refine ⟨fun hp hk => ?_, fun hp hk => ?_, ?_⟩
      · rwa [hp, if_pos rfl, if_pos (hoff.2 hk)] at hwritten
      · rwa [hp, if_neg (by decide), if_neg (mt hoff.1 hk)] at hwritten
      · rintro (⟨hp, hk⟩ | ⟨hp, hk⟩)
        · rwa [hp, if_pos rfl, if_neg (mt hoff.1 hk)] at hwritten
        · rwa [hp, if_neg (by decide), if_pos (hoff.2 hk)] at hwritten

end Sys2Proof.Machine
end

section
/-! CLOSE_LOAD of SXT, MACHINE and the curves (R23, R26, R27, R42, R44, R50 to R53, R177, R193). -/
namespace Sys2Proof.Machine

/-! ### Sources and slots (R23, R27) -/

theorem encoderSelected_iff (rec : Option MachineRecord) :
    encoderSelected rec = true ↔ ∃ m, rec = some m ∧ m.boomSource = .encoder := by
  cases rec <;> simp [encoderSelected]

section
variable {sxt : Vector SxtEntry 16} {rec : Option MachineRecord} {r : Role}

theorem sourceOf_encoder (h : r = .boom ∧ encoderSelected rec = true) : sourceOf sxt rec r = .encoder := if_pos h

theorem sourceOf_sxt (h : ¬ (r = .boom ∧ encoderSelected rec = true)) {i : Fin 16}
    (hi : sxt[i].enabled = true ∧ sxt[i].role = r)
    (hfirst : ∀ j, j < i → ¬ (sxt[j].enabled = true ∧ sxt[j].role = r)) : sourceOf sxt rec r = .sxt i := by
  have hfind : ((List.finRange 16).find? fun i => sxt[i].enabled && decide (sxt[i].role = r)) = some i := by
    simpa [find_finRange_eq_some] using ⟨hi, by simpa using hfirst⟩
  simp only [sourceOf, if_neg h, hfind]

theorem sourceOf_none (h : ¬ (r = .boom ∧ encoderSelected rec = true))
    (hnone : ∀ i : Fin 16, ¬ (sxt[i].enabled = true ∧ sxt[i].role = r)) : sourceOf sxt rec r = .none := by
  have hfind : ((List.finRange 16).find? fun i => sxt[i].enabled && decide (sxt[i].role = r)) = none := by
    simpa [List.find?_eq_none] using hnone
  simp only [sourceOf, if_neg h, hfind]

end

theorem freshSlot_eq (sxt : Vector SxtEntry 16) (power : Power) (src : Source) (t : Time) :
    freshSlot sxt power src t = slotOfSource sxt power t src := by
  simp only [slotOfSource, freshSlot, Slot.mk.injEq, and_true, true_and]
  cases power <;> cases src <;> rfl

/-- SIG with every slot set anew from its source (R27). -/
def settledSig (power : Power) (t : Time) (sxt : Vector SxtEntry 16) (rec : Option MachineRecord) : Sig :=
  let anew := fun r => slotOfSource sxt power t (sourceOf sxt rec r)
  { sxt := sxt, head := anew .head, rod := anew .rod, boom := anew .boom, pitch := anew .pitch, tilt := anew .tilt,
    omega := none, prevBoom := none }

theorem State.settleSlots_eq (t : Time) (s : State) :
    s.settleSlots t = { s with sig := settledSig s.din.power t s.sig.sxt s.wen.record } := by
  simp only [State.settleSlots, freshSlot_eq]
  rfl

/-! ### SXT (R25, R26) -/

theorem SxtEntry.ok_iff (e : SxtEntry) : e.ok = true ↔
    e.start ≤ 63 ∧ 1 ≤ e.length ∧ e.length ≤ 32 ∧ fieldFits e.order e.start e.length = true ∧
    1 ≤ e.divisor ∧ e.divisor ≤ 32767 ∧ -1000000 ≤ e.offset ∧ e.offset ≤ 1000000 ∧
    -1000000 ≤ e.plausMin ∧ e.plausMin ≤ e.plausMax ∧ e.plausMax ≤ 1000000 ∧
    10 ≤ e.timeout ∧ e.timeout ≤ 2550 ∧ e.timeout % 10 = 0 := by
  simp only [SxtEntry.ok, Bool.and_eq_true, decide_eq_true_iff]
  constructor
  · rintro ⟨⟨⟨⟨⟨⟨⟨⟨⟨⟨⟨⟨⟨⟨⟨hs, hl⟩, hl'⟩, hf⟩, hd⟩, hd'⟩, ho⟩, ho'⟩, hp⟩, -⟩, -⟩, hq⟩, hpq⟩, ht⟩, ht'⟩, hm⟩
    exact ⟨hs, hl, hl', hf, hd, hd', ho, ho', hp, hpq, hq, ht, ht', hm⟩
  · rintro ⟨hs, hl, hl', hf, hd, hd', ho, ho', hp, hpq, hq, ht, ht', hm⟩
    exact ⟨⟨⟨⟨⟨⟨⟨⟨⟨⟨⟨⟨⟨⟨⟨hs, hl⟩, hl'⟩, hf⟩, hd⟩, hd'⟩, ho⟩, ho'⟩, hp⟩, by omega⟩, by omega⟩, hq⟩, hpq⟩, ht⟩, ht'⟩, hm⟩

/-- Two entries that both name a role. -/
def sameRole (v : Vector SxtEntry 16) (i j : Fin 16) : Prop :=
  v[i].enabled = true ∧ v[j].enabled = true ∧ v[i].role = v[j].role

theorem sameRole_iff (v : Vector SxtEntry 16) (i j : Fin 16) :
    (v[i].enabled && v[j].enabled && decide (v[i].role = v[j].role)) = true ↔ sameRole v i j := by
  rw [Bool.and_eq_true, Bool.and_eq_true, decide_eq_true_iff, and_assoc]
  rfl

/-- The greatest number that passes a test is the last of those that pass it. -/
theorem getLast?_filter_finRange {n : Nat} {p : Fin n → Bool} {j : Fin n} (hj : p j = true)
    (hmax : ∀ k, p k = true → k ≤ j) : ((List.finRange n).filter p).getLast? = some j := by
  have hmem : j ∈ (List.finRange n).filter p := List.mem_filter.2 ⟨List.mem_finRange j, hj⟩
  obtain ⟨m, hm⟩ := Option.isSome_iff_exists.1 (List.getLast?_isSome.2 (List.ne_nil_of_mem hmem))
  rw [hm]
  obtain ⟨front, hsplit⟩ := List.getLast?_eq_some_iff.1 hm
  have hlast : p m = true := (List.mem_filter.1 (hsplit ▸ List.mem_append_right front (List.mem_singleton_self m))).2
  have hsorted : ((List.finRange n).filter p).Pairwise (· < ·) := (List.pairwise_lt_finRange n).filter _
  rw [hsplit, List.pairwise_append] at hsorted
  obtain ⟨-, -, hbefore⟩ := hsorted
  rw [hsplit, List.mem_append, List.mem_singleton] at hmem
  refine congrArg some (le_antisymm (hmax m hlast) ?_)
  rcases hmem with hmem | rfl
  · exact (hbefore j hmem m (List.mem_singleton_self m)).le
  · exact le_rfl

/-- An entry whose role another entry names too. -/
theorem conflict_any_iff (v : Vector SxtEntry 16) (i : Fin 16) : ((List.finRange 16).any fun j =>
    decide (i ≠ j) && (v[i].enabled && v[j].enabled && decide (v[i].role = v[j].role))) = true ↔
      ∃ j, i ≠ j ∧ sameRole v i j := by
  rw [List.any_eq_true]
  refine exists_congr fun j => (and_iff_right (List.mem_finRange j)).trans ?_
  rw [Bool.and_eq_true, decide_eq_true_iff, sameRole_iff]

theorem sxtConflict_none_of {v : Vector SxtEntry 16} (h : ∀ i j, sameRole v i j → i = j) : sxtConflict v = none := by
  have hnone : ((List.finRange 16).find? fun i => (List.finRange 16).any fun j =>
      decide (i ≠ j) && (v[i].enabled && v[j].enabled && decide (v[i].role = v[j].role))) = none := by
    rw [List.find?_eq_none]
    rintro i - hany
    obtain ⟨j, hne, hij⟩ := (conflict_any_iff v i).1 hany
    exact hne (h i j hij)
  simp only [sxtConflict, hnone]

theorem sxtConflict_some_of {v : Vector SxtEntry 16} {i j : Fin 16} (hne : i ≠ j) (hij : sameRole v i j)
    (hfirst : ∀ k l, k < i → sameRole v k l → k = l) (hmax : ∀ k, sameRole v i k → k ≤ j) :
    sxtConflict v = some j.val := by
  have hsome : ((List.finRange 16).find? fun i => (List.finRange 16).any fun j =>
      decide (i ≠ j) && (v[i].enabled && v[j].enabled && decide (v[i].role = v[j].role))) = some i := by
    refine find_finRange_eq_some.2 ⟨(conflict_any_iff v i).2 ⟨j, hne, hij⟩, fun k hk hany => ?_⟩
    obtain ⟨l, hkl, hsame⟩ := (conflict_any_iff v k).1 hany
    exact hkl (hfirst k l hk hsame)
  have hlast := getLast?_filter_finRange (p := fun j => v[i].enabled && v[j].enabled && decide (v[i].role = v[j].role))
    ((sameRole_iff v i j).2 hij) fun k hk => hmax k ((sameRole_iff v i k).1 hk)
  simp only [sxtConflict, hsome, hlast]
  rfl

/-! ### MACHINE (R42, R44, R177) -/

theorem sameGrid_iff (old : Option MachineRecord) (r : MachineRecord) :
    sameGrid old r = true ↔ ∃ o, old = some o ∧ o.theta0 = r.theta0 ∧ o.dTheta = r.dTheta ∧ o.n = r.n := by
  cases old <;> simp [sameGrid, and_assoc]

/-- A MACHINE load as one update of the state. -/
theorem State.loadRecord_eq (r : MachineRecord) (s : State) : s.loadRecord r = { s with
    wen := { s.wen with
      record := some r
      curveE := if sameGrid s.wen.record r then s.wen.curveE else none
      curveL := if sameGrid s.wen.record r then s.wen.curveL else none }
    fcl := { s.fcl with zones := r.zones, standard := r.standard }
    sig := settledSig s.din.power s.time s.sig.sxt (some r)
    cport := { s.cport with
      gauge := if r.gaugePeriod ≠ 0 ∧ s.din.power = .running then some (Time.plus s.time r.gaugePeriod)
        else none } } := by
  simp only [State.loadRecord, State.settleSlots_eq]
  rfl

/-! ### The curves (R50 to R53) -/

theorem State.writeCurve_of_none {c : CurveName} {v : List Int} {s : State}
    (h : (s.wen.setCurve c v).validation = none) (t : Time) :
    s.writeCurve c v t = s.modWen fun w => w.setCurve c v := by
  have hwen : (s.modWen fun w => w.setCurve c v).wen = s.wen.setCurve c v := rfl
  simp only [State.writeCurve, hwen, h]

theorem State.writeCurve_of_some {c : CurveName} {v : List Int} {s : State} {i : Nat}
    (h : (s.wen.setCurve c v).validation = some i) (t : Time) :
    s.writeCurve c v t = (s.modWen fun w => w.setCurve c v).raiseAlert .calInvalid i t := by
  have hwen : (s.modWen fun w => w.setCurve c v).wen = s.wen.setCurve c v := rfl
  simp only [State.writeCurve, hwen, h]

theorem Wen.validation_of_none {w : Wen} (h : w.curveE = none ∨ w.curveL = none) : w.validation = none := by
  unfold Wen.validation
  rcases h with h | h <;> rw [h]
  cases w.curveE <;> rfl

theorem curveOk_iff (v : Int) : curveOk v = true ↔ -524280 ≤ v ∧ v ≤ 524280 := within_iff _ _ _

section
variable {p : Port} {s : State} {a : Assembly} {crc : Byte} (tag : Byte)

theorem exec_closeLoad_of_conflict (hr : s.hasRoom p = true) (h : s.ReadyToClose p crc a) {i : Nat}
    (hw : s.unassembled.writeTable a.table a.first (chunks a.table.bytes a.received a.count) = .conflict i) :
    exec (.closeLoad p tag crc) s = .next (s.unassembled.respond p 0x13 tag .conflict [BitVec.ofNat 8 i]) := by
  rw [exec_closeLoad_of_ready tag hr h, State.finishLoad_of_conflict tag hw]
  rfl

/-- A curve load that passes its checks writes its curve and validates it. -/
theorem exec_closeLoad_of_curve (hr : s.hasRoom p = true) (h : s.ReadyToClose p crc a) {c : CurveName}
    (htable : a.table = match c with | .empty => .curveE | .reference => .curveL) {xs : List Int}
    (hholds : a.Holds decodeCurve (fun _ v => -524280 ≤ v ∧ v ≤ 524280) xs) :
    exec (.closeLoad p tag crc) s =
      .next ((s.unassembled.writeCurve c xs s.time).respond p 0x13 tag .ok []) := by
  refine exec_closeLoad_of_holds tag hr h hholds (ok := fun _ v => curveOk v) (fun _ v _ => (curveOk_iff v).2)
    fun cs hcs => ?_
  cases c <;> (rw [htable]; simp only [State.writeTable, hcs]; rfl)

end

/-- Settles O59. -/
theorem closeLoadSettlesSignalsAndCurves : Obligations.CloseLoadSettlesSignalsAndCurves := by
  unfold Obligations.CloseLoadSettlesSignalsAndCurves
  refine ⟨fun sxt rec r => ?_, fun p tag crc a s hr hready => ?_⟩
  · intro encoder feeds
    have henc : encoder ↔ r = .boom ∧ encoderSelected rec = true :=
      and_congr Iff.rfl (encoderSelected_iff rec).symm
    exact ⟨fun h => sourceOf_encoder (henc.1 h), fun h =>
      ⟨fun i hi hfirst => sourceOf_sxt (mt henc.2 h) hi hfirst, fun hnone => sourceOf_none (mt henc.2 h) hnone⟩⟩
  intro freed ends breaks settled
  refine ⟨fun htable => ⟨fun j hj => ?_, fun xs sxt hxs hsxt => ?_⟩,
    fun htable => ⟨fun j hj => ?_, fun r hr' =>
      ⟨if sameGrid s.wen.record r then s.wen.curveE else none,
       if sameGrid s.wen.record r then s.wen.curveL else none, ?_, ?_⟩⟩,
    fun htable => ⟨fun j hj => ?_, fun xs hxs => ?_⟩⟩
  · exact exec_closeLoad_of_breaksAt tag hr hready hj (fun _ e _ => e.ok_iff) fun cs i h => by
      simp only [htable, State.writeTable, h]
  · obtain rfl : writeRun s.unassembled.sig.sxt a.first xs = sxt := writeRun_eq_of hsxt
    refine ⟨fun hall => ?_, fun i j hne hij hfirst hmax => ?_⟩
    · exact exec_closeLoad_of_holds tag hr hready hxs (fun _ e _ => e.ok_iff.2) fun cs h => by
        simp only [htable, State.writeTable, h, sxtConflict_none_of hall, State.loadSxt, State.settleSlots_eq]
        rfl
    · have hcheck := checkRun_eq_ok_of_holds hxs fun _ e _ => e.ok_iff.2
      refine exec_closeLoad_of_conflict tag hr hready ?_
      simp only [htable] at hcheck ⊢
      simp only [State.writeTable, hcheck, sxtConflict_some_of hne hij hfirst hmax]
  · exact exec_closeLoad_of_breaksAt tag hr hready hj (fun _ _ _ => Iff.rfl) fun cs i h => by
      simp only [htable, State.writeTable, h]
  · intro grid
    have hgrid := sameGrid_iff s.wen.record r
    exact ⟨fun h => ⟨if_pos (hgrid.2 h), if_pos (hgrid.2 h)⟩,
      fun h => ⟨if_neg (mt hgrid.1 h), if_neg (mt hgrid.1 h)⟩⟩
  · exact exec_closeLoad_of_holds tag hr hready hr' (fun _ _ _ h => h) fun cs h => by
      simp only [htable, State.writeTable, h, State.loadRecord_eq]
      rfl
  · exact exec_closeLoad_of_breaksAt tag hr hready hj (fun _ v _ => curveOk_iff v) fun cs i h => by
      rcases htable with htable | htable <;> simp only [htable, State.writeTable, h]
  · obtain ⟨c, hc, hq⟩ : ∃ c : CurveName, a.table = (match c with | .empty => .curveE | .reference => .curveL) ∧
        (s.unassembled.modWen fun w => w.setCurve c xs) = ({ freed with wen := if a.table = .curveE then
          { s.wen with curveE := some xs } else { s.wen with curveL := some xs } } : State) := by
      rcases htable with h | h
      · exact ⟨.empty, h, by rw [if_pos h]; rfl⟩
      · exact ⟨.reference, h, by rw [if_neg (by rw [h]; decide)]; rfl⟩
    have hexec := exec_closeLoad_of_curve tag hr hready hc hxs
    have hwen : s.unassembled.wen.setCurve c xs = _ := congrArg State.wen hq
    intro q
    refine ⟨fun hnone => ?_, fun e l he hl => ⟨fun hall => ?_, fun i hie hil hlt hfirst => ?_⟩⟩
    · rwa [State.writeCurve_of_none (by rw [hwen]; exact Wen.validation_of_none hnone), hq] at hexec
    · rwa [State.writeCurve_of_none (by
        rw [hwen]
        exact (Wen.validation_of_some he hl).trans (spreadFailure_eq_none hall 0)), hq] at hexec
    · rwa [State.writeCurve_of_some (by
        rw [hwen]
        exact (Wen.validation_of_some he hl).trans (spreadFailure_eq_some hie hil hlt hfirst 0)), hq,
        Nat.zero_add] at hexec

end Sys2Proof.Machine
end

section
/-! Entries read back from their stored bytes (R208, R214). -/
namespace Sys2Proof.Machine

/-! ### Fields read back -/

theorem leSigned_leInt {k : Nat} {v : Int} (hlo : -(256 ^ k : Nat) ≤ 2 * v) (hhi : 2 * v < (256 ^ k : Nat)) :
    leSigned (leInt k v) = v := by
  have hpos : (0 : Int) < (256 ^ k : Nat) := by positivity
  have hnn := Int.emod_nonneg v hpos.ne'
  have hlt := Int.emod_lt_of_pos v hpos
  have hword : leNat (leInt k v) = (v % (256 ^ k : Nat)).toNat := by
    rw [leInt, leNat_leBytes, Nat.mod_eq_of_lt (by omega)]
  unfold leSigned
  simp only [hword, leInt_length]
  rcases lt_or_ge v 0 with hneg | hnonneg
  · have hmod : v % (256 ^ k : Nat) = v + (256 ^ k : Nat) := by
      rw [← Int.add_emod_right, Int.emod_eq_of_lt (by omega) (by omega)]
    rw [if_neg (by omega)]
    omega
  · have hmod : v % (256 ^ k : Nat) = v := Int.emod_eq_of_lt hnonneg (by omega)
    rw [if_pos (by omega)]
    omega

/-- Bit `k` of the flags' number is the k-th flag. -/
theorem testBit_flags (flags : List Bool) (k : Nat) :
    (flags.foldr (fun (b : Bool) (n : Nat) => b.toNat + 2 * n) 0).testBit k = flags.getD k false := by
  induction flags generalizing k with
  | nil => simp
  | cons b bs ih =>
    rw [List.foldr_cons]
    cases k with
    | zero => cases b <;> simp [Nat.testBit_zero]
    | succ k =>
      rw [Nat.testBit_succ, List.getD_cons_succ, ← ih]
      congr 1
      cases b <;> simp [Bool.toNat] <;> omega

section
variable {page : List Byte} {n o i : Nat} {fs : List (Nat × List Byte)} (h : pageHolds page n fs)
include h

theorem pageHolds.slice {bytes : List Byte} (hi : fs[i]? = some (o, bytes)) : slice page o bytes.length = bytes :=
  h.2 _ (List.mem_of_getElem? hi)

theorem pageHolds.nat {k v : Nat} (hi : fs[i]? = some (o, leBytes k v)) (hv : v < 256 ^ k) :
    leNat (Machine.slice page o k) = v := by
  have hs := h.slice hi
  rw [leBytes_length] at hs
  rw [hs, leNat_leBytes, Nat.mod_eq_of_lt hv]

theorem pageHolds.int {k : Nat} {v : Int} (hi : fs[i]? = some (o, leInt k v)) (hlo : -(256 ^ k : Nat) ≤ 2 * v)
    (hhi : 2 * v < (256 ^ k : Nat)) : leSigned (Machine.slice page o k) = v := by
  have hs := h.slice hi
  rw [leInt_length] at hs
  rw [hs, leSigned_leInt hlo hhi]

theorem pageHolds.byte {b : Byte} (hi : fs[i]? = some (o, [b])) : byteAt page o = b := by
  have hs : (page.drop o).take 1 = [b] := h.slice hi
  have hget := congrArg (fun l => l[0]?) hs
  simp only [List.getElem?_take_of_lt Nat.one_pos, List.getElem?_drop, Nat.add_zero, List.getElem?_cons_zero] at hget
  rw [byteAt, List.getD_eq_getElem?_getD, hget, Option.getD_some]

theorem pageHolds.code {v : Nat} (hi : fs[i]? = some (o, eField v)) (hv : v < 256) : (byteAt page o).toNat = v := by
  rw [h.byte hi, BitVec.toNat_ofNat, Nat.mod_eq_of_lt hv]

theorem pageHolds.flag {flags : List Bool} (hi : fs[i]? = some (o, fField flags)) {k : Nat} (hk : k < 8) :
    (byteAt page o).getLsbD k = flags.getD k false := by
  rw [h.byte hi, BitVec.getLsbD_ofNat, testBit_flags, decide_eq_true hk, Bool.true_and]

end

/-! ### FAT -/

theorem ident29_of_toNat {bs : List Byte} {x : BitVec 29} (h : leNat bs = x.toNat) : ident29 bs = some x := by
  have hlt := x.isLt
  simp only [ident29, h, hlt, if_true]
  exact congrArg some (BitVec.eq_of_toNat_eq (by simp))

theorem refOf_refByte (r : Option (Fin 16)) : refOf (refByte r) = some r := by
  cases r with
  | none => rfl
  | some i =>
    have hi : (BitVec.ofNat 8 i.val).toNat = i.val := by
      rw [BitVec.toNat_ofNat]
      exact Nat.mod_eq_of_lt (by omega)
    have hne : BitVec.ofNat 8 i.val ≠ 0xFF := fun h => by
      have := congrArg BitVec.toNat h
      rw [hi] at this
      exact absurd this (by simp; omega)
    simp only [refByte, refOf, if_neg hne, hi, i.isLt, dif_pos]

theorem decodeFat_encodeFat {e : FatEntry} (hmax : e.interval ≤ 2550) (hten : e.interval % 10 = 0) :
    decodeFat (encodeFat e) = some e := by
  have h := encodeFat_holds e
  have hident : ident29 (slice (encodeFat e) 0 4) = some e.ident :=
    ident29_of_toNat (h.nat (i := 0) rfl (e.ident.isLt.trans (by norm_num)))
  have hmask : ident29 (slice (encodeFat e) 4 4) = some e.mask :=
    ident29_of_toNat (h.nat (i := 1) rfl (e.mask.isLt.trans (by norm_num)))
  have href1 : byteAt (encodeFat e) 10 = refByte e.ref1 :=
      h.byte (i := 4) (by unfold FatEntry.fields; cases e.ref1 <;> rfl)
  have href2 : byteAt (encodeFat e) 11 = refByte e.ref2 :=
      h.byte (i := 5) (by unfold FatEntry.fields; cases e.ref2 <;> rfl)
  have hon : (byteAt (encodeFat e) 8).getLsbD 0 = e.enabled := h.flag (i := 2) (flags := [e.enabled])
    (by unfold FatEntry.fields; cases e.enabled <;> rfl) (by decide)
  have hflag {k : Nat} (hk : k < 8) := h.flag (i := 3) (flags := [e.forward, e.extract, e.capture]) rfl hk
  have hinterval : leNat (slice (encodeFat e) 12 2) = e.interval / 10 := h.nat (i := 6) rfl (by norm_num; omega)
  unfold decodeFat
  simp only [hident, hmask, href1, href2, refOf_refByte, hon, hinterval, hflag (by decide : 0 < 8),
    hflag (by decide : 1 < 8), hflag (by decide : 2 < 8), Nat.mul_div_cancel' (Nat.dvd_of_mod_eq_zero hten)]
  rfl

/-! ### SXT -/

theorem roleOf_roleCode (r : Role) : roleOf (roleCode r) = some r := by cases r <;> rfl

theorem decodeSxt_encodeSxt {e : SxtEntry} (hok : e.ok = true) (hlo : -32768 ≤ e.multiplier)
    (hhi : e.multiplier ≤ 32767) : decodeSxt (encodeSxt e) = some e := by
  obtain ⟨hstart, hlen, hlen', -, hdiv, hdiv', hoff, hoff', hmin, hminmax, hmax, htime, htime', -⟩ := e.ok_iff.1 hok
  have h := encodeSxt_holds e
  have hflag {k : Nat} (hk : k < 8) := h.flag (i := 0)
    (flags := [e.enabled, decide (e.order = .big), decide (e.signedness = .signed)]) rfl hk
  have hrole : (byteAt (encodeSxt e) 1).toNat = roleCode e.role := h.code (i := 1) rfl (by cases e.role <;> decide)
  have hs : (byteAt (encodeSxt e) 2).toNat = e.start := h.code (i := 2) rfl (by omega)
  have hl : (byteAt (encodeSxt e) 3).toNat = e.length := h.code (i := 3) rfl (by omega)
  have hm : leSigned (slice (encodeSxt e) 4 2) = e.multiplier :=
      h.int (i := 4) rfl (by norm_num; omega) (by norm_num; omega)
  have hd : leNat (slice (encodeSxt e) 6 2) = e.divisor := h.nat (i := 5) rfl (by norm_num; omega)
  have ho : leSigned (slice (encodeSxt e) 8 3) = e.offset :=
      h.int (i := 6) rfl (by norm_num; omega) (by norm_num; omega)
  have hp : leSigned (slice (encodeSxt e) 11 3) = e.plausMin :=
      h.int (i := 7) rfl (by norm_num; omega) (by norm_num; omega)
  have hq : leSigned (slice (encodeSxt e) 14 3) = e.plausMax :=
      h.int (i := 8) rfl (by norm_num; omega) (by norm_num; omega)
  have ht : leNat (slice (encodeSxt e) 17 2) = e.timeout := h.nat (i := 9) rfl (by norm_num; omega)
  have horder : (if decide (e.order = .big) = true then ByteOrder.big else .little) = e.order := by
    cases e.order <;> rfl
  have hsign : (if decide (e.signedness = .signed) = true then Signedness.signed else .unsigned) = e.signedness := by
    cases e.signedness <;> rfl
  unfold decodeSxt
  simp only [hrole, roleOf_roleCode, hs, hl, hm, hd, ho, hp, hq, ht, hflag (by decide : 0 < 8),
    hflag (by decide : 1 < 8), hflag (by decide : 2 < 8), List.getD_cons_zero, List.getD_cons_succ, horder, hsign]
  rfl

/-! ### The Machine Record -/

theorem boomSourceOf_code (x : BoomSource) : boomSourceOf x.code = some x := by cases x <;> rfl
theorem policyOf_code (x : Policy) : policyOf x.code = some x := by cases x <;> rfl
theorem policyOfBit_drop (x : Policy) : policyOfBit (decide (x = .drop)) = x := by cases x <;> rfl

theorem zonesOf_getElem (b : Byte) (i : Nat) (hi : i < 8) : (zonesOf b)[i] = policyOfBit (b.getLsbD i) := by
  match i, hi with
  | 0, _ => rfl
  | 1, _ => rfl
  | 2, _ => rfl
  | 3, _ => rfl
  | 4, _ => rfl
  | 5, _ => rfl
  | 6, _ => rfl
  | 7, _ => rfl

/-- The fields of a record that passes its checks fit the widths they are stored in (R41, R214). -/
structure MachineRecord.Storable (r : MachineRecord) : Prop where
  aHead : r.aHead < 256 ^ 2
  aRod : r.aRod < 256 ^ 2
  nCyl : r.nCyl < 256
  mRef : r.mRef < 256 ^ 2
  theta0 : -32768 ≤ r.theta0 ∧ r.theta0 ≤ 32767
  dTheta : r.dTheta < 256 ^ 2
  n : r.n < 256
  trim : r.trim < 256
  calSpeed : r.calSpeed < 256 ^ 2
  thetaLo : -32768 ≤ r.thetaLo ∧ r.thetaLo ≤ 32767
  thetaHi : -32768 ≤ r.thetaHi ∧ r.thetaHi ≤ 32767
  nMin : r.nMin < 256
  spreadLimit : r.spreadLimit < 256 ^ 2
  windowTimeout : r.windowTimeout < 256 ^ 2
  omegaMin : r.omegaMin < 256 ^ 2
  thetaDig : -32768 ≤ r.thetaDig ∧ r.thetaDig ≤ 32767
  fDig : r.fDig < 256 ^ 3
  h : r.h < 256 ^ 2
  thetaDump : -32768 ≤ r.thetaDump ∧ r.thetaDump ≤ 32767
  volume : r.volume < 256 ^ 2
  gaugePeriod : r.gaugePeriod < 256 ^ 2
  encNum : -32768 ≤ r.encNum ∧ r.encNum ≤ 32767
  encDen : r.encDen < 256 ^ 2
  indexAngle : -32768 ≤ r.indexAngle ∧ r.indexAngle ≤ 32767

theorem MachineRecord.storable_of_ok {r : MachineRecord} (h : r.ok = true) : r.Storable := by
  simp only [MachineRecord.ok, Bool.and_eq_true, Bool.or_eq_true, within_iff, decide_eq_true_iff] at h
  constructor <;> norm_num <;> omega

/-- A signed 16-bit field reads back. -/
theorem pageHolds.int2 {page : List Byte} {n o i : Nat} {fs : List (Nat × List Byte)} (h : pageHolds page n fs)
    {v : Int} (hi : fs[i]? = some (o, leInt 2 v)) (hv : -32768 ≤ v ∧ v ≤ 32767) :
    leSigned (Machine.slice page o 2) = v := h.int hi (by norm_num; omega) (by norm_num; omega)

theorem decodeRecord_encodeRecord {r : MachineRecord} (hok : r.ok = true) :
    decodeRecord (encodeRecord r) = some r := by
  have hr := MachineRecord.storable_of_ok hok
  have h := encodeRecord_holds r
  generalize encodeRecord r = page at h
  have haHead : leNat (slice page 0 2) = r.aHead := h.nat (i := 0) rfl hr.aHead
  have haRod : leNat (slice page 2 2) = r.aRod := h.nat (i := 1) rfl hr.aRod
  have hnCyl : (byteAt page 4).toNat = r.nCyl := h.code (i := 2) rfl hr.nCyl
  have hsource : (byteAt page 5).toNat = r.boomSource.code :=
    h.code (i := 3) rfl (by cases r.boomSource <;> decide)
  have hmRef : leNat (slice page 6 2) = r.mRef := h.nat (i := 4) rfl hr.mRef
  have htheta0 : leSigned (slice page 8 2) = r.theta0 := h.int2 (i := 5) rfl hr.theta0
  have hdTheta : leNat (slice page 10 2) = r.dTheta := h.nat (i := 6) rfl hr.dTheta
  have hn : (byteAt page 12).toNat = r.n := h.code (i := 7) rfl hr.n
  have htrim : (byteAt page 13).toNat = r.trim := h.code (i := 8) rfl hr.trim
  have hcalSpeed : leNat (slice page 14 2) = r.calSpeed := h.nat (i := 9) rfl hr.calSpeed
  have hthetaLo : leSigned (slice page 16 2) = r.thetaLo := h.int2 (i := 10) rfl hr.thetaLo
  have hthetaHi : leSigned (slice page 18 2) = r.thetaHi := h.int2 (i := 11) rfl hr.thetaHi
  have hnMin : (byteAt page 20).toNat = r.nMin := h.code (i := 12) rfl hr.nMin
  have hzones : zonesOf (byteAt page 21) = r.zones := Vector.ext fun z hz => by
    rw [zonesOf_getElem _ z hz, h.flag (i := 13) rfl hz]
    simp [hz, policyOfBit_drop]
  have hspread : leNat (slice page 22 2) = r.spreadLimit := h.nat (i := 14) rfl hr.spreadLimit
  have htimeout : leNat (slice page 24 2) = r.windowTimeout := h.nat (i := 15) rfl hr.windowTimeout
  have homegaMin : leNat (slice page 26 2) = r.omegaMin := h.nat (i := 16) rfl hr.omegaMin
  have hthetaDig : leSigned (slice page 28 2) = r.thetaDig := h.int2 (i := 17) rfl hr.thetaDig
  have hfDig : leNat (slice page 30 3) = r.fDig := h.nat (i := 18) rfl hr.fDig
  have hstandard : (byteAt page 33).toNat = r.standard.code :=
    h.code (i := 19) rfl (by cases r.standard <;> decide)
  have hh : leNat (slice page 34 2) = r.h := h.nat (i := 20) rfl hr.h
  have hthetaDump : leSigned (slice page 36 2) = r.thetaDump := h.int2 (i := 21) rfl hr.thetaDump
  have hvolume : leNat (slice page 38 2) = r.volume := h.nat (i := 22) rfl hr.volume
  have hgauge : leNat (slice page 40 2) = r.gaugePeriod := h.nat (i := 23) rfl hr.gaugePeriod
  have hencNum : leSigned (slice page 42 2) = r.encNum := h.int2 (i := 24) rfl hr.encNum
  have hencDen : leNat (slice page 44 2) = r.encDen := h.nat (i := 25) rfl hr.encDen
  have hindex : leSigned (slice page 46 2) = r.indexAngle := h.int2 (i := 26) rfl hr.indexAngle
  unfold decodeRecord
  simp only [haHead, haRod, hnCyl, hsource, boomSourceOf_code, hmRef, htheta0, hdTheta, hn, htrim, hcalSpeed, hthetaLo,
    hthetaHi, hnMin, hzones, hspread, htimeout, homegaMin, hthetaDig, hfDig, hstandard, policyOf_code, hh, hthetaDump,
    hvolume, hgauge, hencNum, hencDen, hindex]
  rfl

/-! ### The four-byte entries -/

theorem lineFunctionOf_code (x : LineFunction) : lineFunctionOf x.code = some x := by cases x <;> rfl
theorem lineEdgeOf_code (x : LineEdge) : lineEdgeOf x.code = some x := by cases x <;> rfl

theorem decodeLine_encodeLine {l : Line} (hl : l.debounce ≤ 65535) :
    decodeLine (encodeLine l) = some ⟨l.function, l.edge, l.debounce⟩ := by
  have h := encodeLine_holds l
  have hf : (byteAt (encodeLine l) 0).toNat = l.function.code := h.code (i := 0) rfl (by cases l.function <;> decide)
  have he : (byteAt (encodeLine l) 1).toNat = l.edge.code := h.code (i := 1) rfl (by cases l.edge <;> decide)
  have hd : leNat (slice (encodeLine l) 2 2) = l.debounce := h.nat (i := 2) rfl (by norm_num; omega)
  unfold decodeLine
  simp only [hf, he, hd, lineFunctionOf_code, lineEdgeOf_code]
  rfl

theorem decodeCurve_encodeCurve {v : Int} (hv : curveOk v = true) : decodeCurve (encodeCurve v) = some v := by
  obtain ⟨hlo, hhi⟩ := (curveOk_iff v).1 hv
  have hslice : slice (encodeCurve v) 0 4 = leInt 4 v := List.take_of_length_le (leInt_length 4 v).le
  rw [decodeCurve, hslice, leSigned_leInt (by norm_num; omega) (by norm_num; omega)]

theorem decodeBand_encodeBand {b : Band} (hu : b.upper ≤ 65535) (hlo : -32768 ≤ b.correction)
    (hhi : b.correction ≤ 32767) : decodeBand (encodeBand b) = some b := by
  have h : pageHolds (encodeBand b) 4 [(0, leBytes 2 b.upper), (2, leInt 2 b.correction)] :=
    pageHolds_of_adjoin (by simp [encodeBand]) (by simp [encodeBand]) (by simp)
  have hupper : leNat (slice (encodeBand b) 0 2) = b.upper := h.nat (i := 0) rfl (by norm_num; omega)
  have hcorr : leSigned (slice (encodeBand b) 2 2) = b.correction := h.int2 (i := 1) rfl ⟨hlo, hhi⟩
  rw [decodeBand, hupper, hcorr]

theorem decodeMaterial_encodeMaterial {rho : Nat} (h : rho ≤ 65535) :
    decodeMaterial (encodeMaterial rho) = some rho := by
  have hslice : slice (encodeMaterial rho) 0 2 = leBytes 2 rho := rfl
  rw [decodeMaterial, hslice, leNat_leBytes, Nat.mod_eq_of_lt (by norm_num; omega)]

/-- Settles O55. -/
theorem entriesReadBackAsStored : Obligations.EntriesReadBackAsStored :=
  ⟨fun e hok hten => decodeFat_encodeFat (e.ok_iff.1 hok).1 hten, fun _ hok hlo hhi => decodeSxt_encodeSxt hok hlo hhi,
    fun _ hok => decodeRecord_encodeRecord hok, fun _ hv => decodeCurve_encodeCurve hv,
    fun _ hu hlo hhi => decodeBand_encodeBand hu hlo hhi, fun _ h => decodeMaterial_encodeMaterial h,
    fun _ hl => decodeLine_encodeLine hl⟩

end Sys2Proof.Machine
end

section
/-! The queries: what each answers, and what it changes (R137, R141, R157, R185, R204, R213, R214). -/
namespace Sys2Proof.Machine

/-! ### Answers -/

/-- The status and the results of a query that finds its item, or answers `absent`. -/
def reported (absent : Status) (o : Option (List Byte)) : Status × List Byte :=
  match o with
  | some r => (.ok, r)
  | none => (absent, [])

theorem reported_of_some {absent : Status} {o : Option (List Byte)} {r : List Byte} (h : o = some r) :
    (reported absent o).1 = .ok ∧ (reported absent o).2 = r := by
  subst h
  exact ⟨rfl, rfl⟩

theorem reported_of_none {absent : Status} {o : Option (List Byte)} (h : o = none) :
    (reported absent o).1 = absent ∧ (reported absent o).2 = [] := by
  subst h
  exact ⟨rfl, rfl⟩

theorem toNat_ne_of_ne {x y : Byte} (h : x ≠ y) : x.toNat ≠ y.toNat := fun he => h (BitVec.eq_of_toNat_eq he)

/-- A record of 4 bytes is one piece. -/
theorem piece_of_length_four {bs : List Byte} (h : bs.length = 4) : piece bs 0 = bs ++ [0] := by
  match bs, h with
  | [_, _, _, _], _ => rfl

/-! ### IDENTIFY -/

theorem State.cmdIdentify_eq (p : Port) (tag item : Byte) (s : State) : s.cmdIdentify p tag item =
    s.respond p 0x01 tag (reported .badArg (s.identity item.toNat)).1 (reported .badArg (s.identity item.toNat)).2 := by
  unfold State.cmdIdentify
  cases s.identity item.toNat <;> rfl

theorem State.identity_of_high {item : Nat} (h : 3 ≤ item) (s : State) : s.identity item = none := by
  match item, h with
  | _ + 3, _ => rfl

/-! ### QUERY_STATUS -/

/-- The piece that QUERY_STATUS answers; none is BAD_ARG. -/
def State.statusAnswer (page item part : Nat) (s : State) : Option (List Byte) :=
  (s.statusPage page item).bind fun r => if hasPart r.length part then some (piece r part) else none

/-- The state that QUERY_STATUS leaves: a reported event flag is clear. -/
def State.statusRead (page item part : Nat) (s : State) : State :=
  if (s.statusAnswer page item part).isSome then s.clearReported page item part else s

theorem State.cmdQueryStatus_eq (p : Port) (tag page item part : Byte) (s : State) :
    let answer := reported .badArg (s.statusAnswer page.toNat item.toNat part.toNat)
    s.cmdQueryStatus p tag page item part =
      (s.statusRead page.toNat item.toNat part.toNat).respond p 0x02 tag answer.1 answer.2 := by
  unfold State.cmdQueryStatus State.statusRead State.statusAnswer
  cases s.statusPage page.toNat item.toNat with
  | none => rfl
  | some r =>
    simp only [Option.bind_some]
    by_cases hp : hasPart r.length part.toNat = true
    · simp only [if_pos hp]
      rfl
    · simp only [if_neg hp]
      rfl

theorem hasPart_iff (length part : Nat) : hasPart length part = true ↔ part < (length + 4) / 5 := decide_eq_true_iff

section
variable {page item part : Nat} {s : State}

theorem State.statusAnswer_of_part {record : List Byte} (h : s.statusPage page item = some record)
    (hpart : part < (record.length + 4) / 5) : s.statusAnswer page item part = some (piece record part) := by
  simp only [State.statusAnswer, h, Option.bind_some, if_pos ((hasPart_iff _ _).2 hpart)]

/-- A page that holds its fields is answered piece by piece, and a part past its end is BAD_ARG. -/
theorem State.statusAnswer_gives {record : List Byte} {length : Nat} {fields : List (Nat × List Byte)}
    (hpage : s.statusPage page item = some record) (h : pageHolds record length fields) :
    record.length = length ∧ pageHolds record length fields ∧
    (part < (length + 4) / 5 → (reported .badArg (s.statusAnswer page item part)).1 = .ok ∧
      (reported .badArg (s.statusAnswer page item part)).2 = piece record part) ∧
    ((length + 4) / 5 ≤ part → (reported .badArg (s.statusAnswer page item part)).1 = .badArg ∧
      (reported .badArg (s.statusAnswer page item part)).2 = []) := by
  have hlen := h.1
  refine ⟨hlen, h, fun hpart => reported_of_some (State.statusAnswer_of_part hpage (hlen.symm ▸ hpart)),
    fun hpart => reported_of_none ?_⟩
  have hno : ¬ hasPart record.length part = true := by
    rw [hasPart_iff, hlen]
    exact Nat.not_lt.2 hpart
  simp only [State.statusAnswer, hpage, Option.bind_some, if_neg hno]

theorem State.statusAnswer_of_none (h : s.statusPage page item = none) : s.statusAnswer page item part = none := by
  simp only [State.statusAnswer, h, Option.bind_none]

theorem State.statusPage_role (r : Role) : s.statusPage 1 (roleCode r) = some (s.rolePage r) := by
  simp only [State.statusPage, roleOf_roleCode, Option.map_some]

theorem State.statusPage_line (i : Fin 4) : s.statusPage 6 i.val = some s.din.lines[i].page := by
  simp only [State.statusPage, i.isLt, dif_pos]
  rfl

theorem State.statusPage_role_of_high (h : 5 ≤ item) : s.statusPage 1 item = none := by
  match item, h with
  | _ + 5, _ => rfl

theorem State.statusPage_line_of_high (h : 4 ≤ item) : s.statusPage 6 item = none := dif_neg (Nat.not_lt.2 h)

theorem State.statusPage_port_of_high (h : 2 ≤ item) : s.statusPage 8 item = none := by
  match item, h with
  | _ + 2, _ => rfl

theorem State.statusPage_of_high (h : 10 ≤ page) : s.statusPage page item = none := by
  match page, h with
  | _ + 10, _ => rfl

/-- Only the part of a line that carries its event flag is read with an effect (R157). -/
theorem State.statusRead_of_other (h : page ≠ 6 ∨ part ≠ 1 ∨ 4 ≤ item) : s.statusRead page item part = s := by
  have hclear : s.clearReported page item part = s := dif_neg fun hc => by omega
  rw [State.statusRead, hclear]
  exact ite_self _

theorem State.statusRead_line (i : Fin 4) :
    s.statusRead 6 i.val 1 = s.modLine i fun l => { l with flag := false } := by
  have hsome := s.statusAnswer_of_part (part := 1) (s.statusPage_line i)
    (by rw [(s.din.lines[i].page_holds).1]; decide)
  rw [State.statusRead, hsome]
  exact dif_pos ⟨rfl, rfl, i.isLt⟩

end

/-! ### READ_ENTRY -/

/-- What READ_ENTRY answers for an entry of a table. -/
def State.chunkAnswer (t : Table) (index chunk : Nat) (s : State) : Status × List Byte :=
  if chunk * 5 < t.bytes then
    match s.entryBytes t index with
    | some bytes => reported .empty (bytes.map fun bs => piece bs chunk)
    | none => (.badArg, [])
  else (.badArg, [])

/-- What READ_ENTRY answers. -/
def State.entryAnswer (table index chunk : Nat) (s : State) : Status × List Byte :=
  match tableOf table with
  | some t => s.chunkAnswer t index chunk
  | none => (.badArg, [])

theorem State.cmdReadEntry_eq (p : Port) (tag table index chunk : Byte) (s : State) :
    let answer := s.entryAnswer table.toNat index.toNat chunk.toNat
    s.cmdReadEntry p tag table index chunk = s.respond p 0x03 tag answer.1 answer.2 := by
  unfold State.cmdReadEntry State.entryAnswer
  cases tableOf table.toNat with
  | none => rfl
  | some t =>
    simp only [State.chunkAnswer, Table.hasChunk]
    by_cases hc : chunk.toNat * 5 < t.bytes
    · rw [decide_eq_true hc, if_pos hc]
      rcases s.entryBytes t index.toNat with _ | _ | bytes <;> rfl
    · rw [decide_eq_false hc, if_neg hc]

section
variable {t : Table} {index chunk : Nat} {s : State}

theorem State.entryAnswer_of_some {table : Nat} (ht : tableOf table = some t) {bytes : List Byte}
    (hc : chunk * 5 < t.bytes) (h : s.entryBytes t index = some (some bytes)) :
    (s.entryAnswer table index chunk).1 = .ok ∧ (s.entryAnswer table index chunk).2 = piece bytes chunk := by
  simp only [State.entryAnswer, ht, State.chunkAnswer, if_pos hc, h]
  exact ⟨rfl, rfl⟩

theorem State.entryAnswer_of_empty {table : Nat} (ht : tableOf table = some t) (hc : chunk * 5 < t.bytes)
    (h : s.entryBytes t index = some none) :
    (s.entryAnswer table index chunk).1 = .empty ∧ (s.entryAnswer table index chunk).2 = [] := by
  simp only [State.entryAnswer, ht, State.chunkAnswer, if_pos hc, h]
  exact ⟨rfl, rfl⟩

theorem State.entryBytes_of_high (h : t.entries ≤ index) : s.entryBytes t index = none := by
  cases t with
  | machine => exact if_neg fun he => absurd (he ▸ h) (by decide)
  | curveE => exact if_neg (Nat.not_lt.2 h)
  | curveL => exact if_neg (Nat.not_lt.2 h)
  | fat => simpa [State.entryBytes, Table.entries] using h
  | sxt => simpa [State.entryBytes, Table.entries] using h
  | bands => simpa [State.entryBytes, Table.entries] using h
  | material => simpa [State.entryBytes, Table.entries] using h
  | lines => simpa [State.entryBytes, Table.entries] using h

theorem State.entryAnswer_of_outside {table : Nat} (ht : tableOf table = some t)
    (h : t.entries ≤ index ∨ t.bytes ≤ 5 * chunk) :
    (s.entryAnswer table index chunk).1 = .badArg ∧ (s.entryAnswer table index chunk).2 = [] := by
  have hanswer : s.chunkAnswer t index chunk = (.badArg, []) := by
    unfold State.chunkAnswer
    split_ifs with hc
    · rw [State.entryBytes_of_high (h.resolve_right (by omega))]
    · rfl
  simp only [State.entryAnswer, ht, hanswer]
  exact ⟨trivial, trivial⟩

/-- A table that has an entry at every index answers the chunks of that entry. -/
theorem State.entryBytes_fat (k : Fin 48) : s.entryBytes .fat k.val = some (some (encodeFat s.fcl.fat[k])) := by
  simp [State.entryBytes]

theorem State.entryBytes_sxt (k : Fin 16) : s.entryBytes .sxt k.val = some (some (encodeSxt s.sig.sxt[k])) := by
  simp [State.entryBytes]

theorem State.entryBytes_bands (k : Fin 8) : s.entryBytes .bands k.val = some (some (encodeBand s.wen.bands[k])) := by
  simp [State.entryBytes]

theorem State.entryBytes_material (k : Fin 16) :
    s.entryBytes .material k.val = some (some (encodeMaterial s.lac.materials[k])) := by
  simp [State.entryBytes]

theorem State.entryBytes_lines (k : Fin 4) :
    s.entryBytes .lines k.val = some (some (encodeLine s.din.lines[k])) := by
  simp [State.entryBytes]

theorem State.entryBytes_machine : s.entryBytes .machine 0 = some (s.wen.record.map encodeRecord) := rfl

/-- A curve's entry is read under its table (R48, R185). -/
theorem State.entryAnswer_curve {table : Byte} {curve : Option (List Int)}
    (h : table = 3 ∧ curve = s.wen.curveE ∨ table = 4 ∧ curve = s.wen.curveL) (hi : index < 24) :
    s.entryAnswer table.toNat index 0 = reported .empty (curve.map fun v => leInt 4 (v.getD index 0) ++ [0]) := by
  have hpiece (v : Int) : piece (encodeCurve v) 0 = leInt 4 v ++ [0] := piece_of_length_four (leInt_length 4 v)
  obtain ⟨t, htable, hbytes, hentry⟩ : ∃ t : Table, tableOf table.toNat = some t ∧ 0 * 5 < t.bytes ∧
      s.entryBytes t index = some (curve.map fun c => encodeCurve (c.getD index 0)) := by
    rcases h with ⟨rfl, rfl⟩ | ⟨rfl, rfl⟩
    · exact ⟨.curveE, rfl, by decide, if_pos hi⟩
    · exact ⟨.curveL, rfl, by decide, if_pos hi⟩
  simp only [State.entryAnswer, htable, State.chunkAnswer, if_pos hbytes, hentry, Option.map_map, Function.comp_def,
    hpiece]

end

/-! ### QUERY_LOAD -/

/-- What QUERY_LOAD answers. -/
def State.loadAnswer (index page part : Nat) (s : State) : Status × List Byte :=
  if loadArgsOk index page part then reported .empty ((s.lac.loadPage index page).map fun r => piece r part)
  else (.badArg, [])

theorem State.cmdQueryLoad_eq (p : Port) (tag index page part : Byte) (s : State) :
    let answer := s.loadAnswer index.toNat page.toNat part.toNat
    s.cmdQueryLoad p tag index page part = s.respond p 0x04 tag answer.1 answer.2 := by
  unfold State.cmdQueryLoad State.loadAnswer
  split
  · cases s.lac.loadPage index.toNat page.toNat <;> rfl
  · rfl

theorem loadArgsOk_iff (index page part : Nat) : loadArgsOk index page part = true ↔
    index ≤ 8 ∧ page ≤ 16 ∧ (page = 0 → part < 5) ∧ (page ≠ 0 → part < 4) := by
  have hparts : hasPart (loadPageLength page) part = true ↔ (page = 0 → part < 5) ∧ (page ≠ 0 → part < 4) := by
    rw [hasPart_iff, loadPageLength]
    split_ifs <;> omega
  rw [loadArgsOk, Bool.and_eq_true, Bool.and_eq_true, decide_eq_true_iff, decide_eq_true_iff, hparts, and_assoc]

section
variable {index page : Nat} {l : Lac} {x : Load} {closing : Option (Time × ClosedBy)}

theorem Lac.loadAt_of_high (h : l.completed.length < index) : l.loadAt index = none := by
  match index, h with
  | k + 1, h => simpa [Lac.loadAt] using Nat.le_of_lt_succ h

theorem Lac.loadAt_of_filed {y : Summary} (hi : 1 ≤ index) (hy : l.completed.reverse[index - 1]? = some y) :
    l.loadAt index = some (y.load, some (y.closeTime, y.closedBy)) := by
  match index, hi with
  | k + 1, _ => exact congrArg (Option.map _) (by exact hy : l.completed.reverse[k]? = some y)

theorem Lac.loadPage_header (h : l.loadAt index = some (x, closing)) :
    l.loadPage index 0 = some (x.header closing) := by
  simp only [Lac.loadPage, h]

theorem Lac.loadPage_bucket (h : l.loadAt index = some (x, closing)) (hp : page ≠ 0) :
    l.loadPage index page = (x.buckets[page - 1]?).map BucketRecord.page := by
  match page, hp with
  | k + 1, _ =>
    simp only [Lac.loadPage, h]
    rfl

theorem Lac.loadPage_of_high (h : l.completed.length < index) : l.loadPage index page = none := by
  simp only [Lac.loadPage, Lac.loadAt_of_high h]

end

/-! ### QUERY_TOTALS -/

theorem State.cmdQueryTotals_eq (p : Port) (tag selector counter : Byte) (s : State) :
    let answer := reported .badArg ((s.lac.totals.counter selector.toNat counter.toNat).map (leBytes 4))
    s.cmdQueryTotals p tag selector counter = s.respond p 0x05 tag answer.1 answer.2 := by
  unfold State.cmdQueryTotals
  cases s.lac.totals.counter selector.toNat counter.toNat <;> rfl

theorem Totals.counter_material (x : Totals) (k : Fin 16) (number : Nat) :
    x.counter k.val number = x.materials[k].counter number := dif_pos k.isLt

theorem Totals.counter_of_outside (x : Totals) {selector number : Nat} (h : 17 ≤ selector ∨ 4 ≤ number) :
    x.counter selector number = none := by
  have hmaterial (m : MaterialTotals) (hn : 4 ≤ number) : m.counter number = none := by
    match number, hn with
    | _ + 4, _ => rfl
  have hglobal (hn : 4 ≤ number) : x.global number = none := by
    match number, hn with
    | _ + 4, _ => rfl
  unfold Totals.counter
  split_ifs with hm hg
  · exact hmaterial _ (h.resolve_left (by omega))
  · exact hglobal (h.resolve_left (by omega))
  · rfl

/-- Settles O54. -/
theorem queriesReportAndChangeNothing : Obligations.QueriesReportAndChangeNothing := by
  unfold Obligations.QueriesReportAndChangeNothing
  intro p tag a b c s hr part
  refine ⟨⟨_, _, (exec_request_of_room rfl hr).trans (congrArg Host.Outcome.next (s.cmdIdentify_eq p tag a)), ?_⟩,
    ⟨_, _, _, (exec_request_of_room rfl hr).trans (congrArg Host.Outcome.next (s.cmdQueryStatus_eq p tag a b c)), ?_⟩,
    ⟨_, _, (exec_request_of_room rfl hr).trans (congrArg Host.Outcome.next (s.cmdReadEntry_eq p tag a b c)), ?_⟩,
    ⟨_, _, (exec_request_of_room rfl hr).trans (congrArg Host.Outcome.next (s.cmdQueryLoad_eq p tag a b c)), ?_⟩,
    ⟨_, _, (exec_request_of_room rfl hr).trans (congrArg Host.Outcome.next (s.cmdQueryTotals_eq p tag a b)), ?_⟩,
    exec_request_of_room rfl hr⟩
  · refine ⟨?_, ?_, ?_, fun ha => reported_of_none (State.identity_of_high ha s)⟩
    all_goals
      rintro rfl
      exact ⟨rfl, rfl⟩
  · refine ⟨fun h => State.statusRead_of_other ?_, fun i ha hb hc => ?_, fun ha hc => ?_, ?_, ?_⟩
    · exact h.imp toNat_ne_of_ne (Or.imp_left toNat_ne_of_ne)
    · subst ha hc
      rw [hb]
      have hread := s.statusRead_line i
      have hsome := s.statusAnswer_of_part (part := 1) (s.statusPage_line i)
        (by rw [(s.din.lines[i].page_holds).1]; decide)
      refine ⟨?_, fun j hj => ?_, ?_, (reported_of_some hsome).1⟩
      all_goals rw [(by exact hread : s.statusRead (6 : Byte).toNat i.val (1 : Byte).toNat = _)]
      · simp [State.modLine]
      · have hv : (i : Nat) ≠ j := fun he => hj (Fin.ext he.symm)
        simp [State.modLine, hv]
      · rfl
    · subst ha hc
      have hanswer := reported_of_some (absent := .badArg) (s.statusAnswer_of_part (part := 0) (item := b.toNat)
        (by rfl : s.statusPage 0 b.toNat = some s.generalPage) (by rw [s.generalPage_holds.1]; decide))
      refine ⟨hanswer.1, (congrArg (fun bs => (bs.head?).map BitVec.toNat) hanswer.2).trans ?_⟩
      have hcode := s.generalPage_holds.code (i := 0) rfl (by cases s.mgt.mode <;> decide)
      exact congrArg some hcode
    · intro gives
      refine ⟨?_, fun r ha hb => ?_, ?_, ?_, ?_, ?_, fun i ha hb => ?_, ?_, ?_, ?_, ?_⟩
      · rintro rfl
        exact State.statusAnswer_gives rfl s.generalPage_holds
      · subst ha
        exact State.statusAnswer_gives (by rw [hb]; exact s.statusPage_role r) (s.rolePage_holds r)
      · rintro rfl
        exact State.statusAnswer_gives rfl s.windowPage_holds
      · rintro rfl
        exact State.statusAnswer_gives rfl s.resultPage_holds
      · rintro rfl
        exact State.statusAnswer_gives rfl s.cyclePage_holds
      · rintro rfl
        exact State.statusAnswer_gives rfl s.curvesPage_holds
      · subst ha
        exact State.statusAnswer_gives (by rw [hb]; exact s.statusPage_line i) s.din.lines[i].page_holds
      · rintro rfl
        exact State.statusAnswer_gives rfl s.encoderPage_holds
      · rintro rfl rfl
        exact State.statusAnswer_gives rfl s.cabPage_holds
      · rintro rfl rfl
        exact State.statusAnswer_gives rfl s.machinePage_holds
      · rintro rfl
        exact State.statusAnswer_gives rfl s.managementPage_holds
    · intro h
      refine reported_of_none (State.statusAnswer_of_none ?_)
      rcases h with ⟨rfl, h⟩ | ⟨rfl, h⟩ | ⟨rfl, h⟩ | h
      · exact State.statusPage_role_of_high h
      · exact State.statusPage_line_of_high h
      · exact State.statusPage_port_of_high h
      · exact State.statusPage_of_high h
  · refine ⟨fun k ha hb hc => ?_, fun k ha hb hc => ?_, ?_, fun r ha hb hc hrec => ?_, fun curve h hb hc => ?_,
      fun k ha hb hc => ?_, fun k ha hb hc => ?_, fun k ha hb hc => ?_, fun k ha h => ?_, fun ha => ?_⟩
    · subst ha
      have h := State.entryAnswer_of_some (by rfl : tableOf (0 : Byte).toNat = some .fat)
        (by change part * 5 < 16; omega) (s.entryBytes_fat k)
      rw [hb]
      exact ⟨h.1, h.2, encodeFat_holds _⟩
    · subst ha
      have h := State.entryAnswer_of_some (by rfl : tableOf (1 : Byte).toNat = some .sxt)
        (by change part * 5 < 20; omega) (s.entryBytes_sxt k)
      rw [hb]
      exact ⟨h.1, h.2, encodeSxt_holds _⟩
    · rintro rfl rfl hc hnone
      refine State.entryAnswer_of_empty (by rfl : tableOf (2 : Byte).toNat = some .machine)
        (by change part * 5 < 64; omega) ?_
      exact s.entryBytes_machine.trans (by rw [hnone]; rfl)
    · subst ha hb
      have h := State.entryAnswer_of_some (by rfl : tableOf (2 : Byte).toNat = some .machine)
        (by change part * 5 < 64; omega) (s.entryBytes_machine.trans (by rw [hrec]; rfl))
      exact ⟨h.1, h.2, encodeRecord_holds r⟩
    · have hzero : c.toNat = 0 := hc
      rw [hzero, State.entryAnswer_curve h hb]
      refine ⟨fun hnone => ?_, fun v hv => ?_⟩
      · rw [hnone]
        exact ⟨rfl, rfl⟩
      · rw [hv]
        exact ⟨rfl, rfl⟩
    · subst ha
      have hzero : c.toNat = 0 := hc
      have h := State.entryAnswer_of_some (by rfl : tableOf (5 : Byte).toNat = some .bands) (by decide : 0 * 5 < _)
        (s.entryBytes_bands k)
      rw [piece_of_length_four (by simp [encodeBand])] at h
      rw [hb, hzero]
      exact h
    · subst ha
      have hzero : c.toNat = 0 := hc
      have h := State.entryAnswer_of_some (by rfl : tableOf (6 : Byte).toNat = some .material) (by decide : 0 * 5 < _)
        (s.entryBytes_material k)
      rw [piece_of_length_four (by simp [encodeMaterial]), encodeMaterial, List.append_assoc] at h
      rw [hb, hzero]
      exact h
    · subst ha
      have hzero : c.toNat = 0 := hc
      have h := State.entryAnswer_of_some (by rfl : tableOf (7 : Byte).toNat = some .lines) (by decide : 0 * 5 < _)
        (s.entryBytes_lines k)
      rw [hb, hzero]
      exact ⟨h.1, h.2, encodeLine_holds _⟩
    · exact State.entryAnswer_of_outside (ha ▸ tableOf_code k) h
    · simp only [State.entryAnswer, tableOf_of_high ha]
      exact ⟨trivial, trivial⟩
  · have hzero {x : Byte} : x = 0 ↔ x.toNat = 0 := ⟨fun h => by rw [h]; rfl, fun h => BitVec.eq_of_toNat_eq h⟩
    simp only [ne_eq, hzero]
    refine ⟨fun h => ?_, fun ha hb hhead hbucket => ?_⟩
    · have hno : ¬ loadArgsOk a.toNat b.toNat c.toNat = true := by
        rw [loadArgsOk_iff]
        omega
      simp only [State.loadAnswer, if_neg hno]
      exact ⟨trivial, trivial⟩
    · have hargs : loadArgsOk a.toNat b.toNat c.toNat = true := (loadArgsOk_iff _ _ _).2 ⟨ha, hb, hhead, hbucket⟩
      simp only [State.loadAnswer, if_pos hargs]
      refine ⟨fun hhigh => reported_of_none (by rw [Lac.loadPage_of_high hhigh]; rfl), fun l closing hl => ?_⟩
      have hat : s.lac.loadAt a.toNat = some (l, closing) := by
        rcases hl with ⟨ha, rfl, rfl⟩ | ⟨y, hi, hy, rfl, rfl⟩
        · rw [ha]
          rfl
        · exact Lac.loadAt_of_filed hi hy
      refine ⟨fun hb => ?_, fun k hb hk => ?_, fun hb hmissing => reported_of_none ?_⟩
      · rw [hb, Lac.loadPage_header hat]
        exact ⟨rfl, rfl, l.header_holds closing⟩
      · rw [Lac.loadPage_bucket hat hb, hk]
        exact ⟨rfl, rfl, k.page_holds⟩
      · rw [Lac.loadPage_bucket hat hb, List.getElem?_eq_none (by omega)]
        rfl
  · refine ⟨fun k hk => ?_, ?_, ?_, ?_, ?_, fun h => ?_⟩
    · rw [hk, Totals.counter_material]
      refine ⟨?_, ?_, ?_, ?_⟩
      all_goals
        rintro rfl
        exact ⟨rfl, rfl⟩
    · rintro rfl rfl
      exact ⟨rfl, rfl⟩
    · rintro rfl rfl
      exact ⟨rfl, rfl⟩
    · rintro rfl rfl
      exact ⟨rfl, rfl⟩
    · rintro rfl rfl
      exact ⟨rfl, rfl⟩
    · rw [Totals.counter_of_outside _ h]
      exact ⟨rfl, rfl⟩

end Sys2Proof.Machine
end

section
/-! Parking and waking (R21, R40, R72, R82, R97, R100, R120, R121, R154, R155, R177, R179). -/
namespace Sys2Proof.Machine

/-! ### States alike in the cab port and in MGT -/

/-- Two states agree in all that an offer to channel E reads and writes. -/
def State.Alike (s t : State) : Prop := t.cport = s.cport ∧ t.mgt = s.mgt

namespace State.Alike
variable {s t : State}

theorem offerE (h : s.Alike t) (f : Frame) : (s.offerE f).Alike (t.offerE f) := by
  obtain ⟨hc, hm⟩ := h
  unfold State.offerE State.Alike
  rw [hc]
  split
  · exact ⟨hc, hm⟩
  · split
    · simp [State.modCport, hc, hm]
    · simp [State.latch, State.modMgt, hc, hm]

theorem raiseAlert (h : s.Alike t) (a : Alert) (detail : Nat) (x : Time) :
    (s.raiseAlert a detail x).Alike (t.raiseAlert a detail x) := by
  obtain ⟨hc, hm⟩ := h
  have hlatch : (s.latch a).Alike (t.latch a) := ⟨hc, by simp [State.latch, State.modMgt, hm]⟩
  have hframe : t.alertFrame a 15 detail x = s.alertFrame a 15 detail x := by
    rw [State.alertFrame, State.alertFrame, State.displayFrame_congr (congrArg Mgt.node hm)]
  unfold State.raiseAlert State.raiseSub
  rw [hm, hframe]
  split
  · exact hlatch.offerE _
  · exact hlatch

end State.Alike

/-! ### The alerts and frames of parking (R82, R97, R202) -/

/-- After the TARE_REFUSED of a tare pass that parking cuts off. -/
def State.parkRefused (x : Time) (s : State) : State :=
  if s.wen.window.isSome ∧ s.wen.tareArmed = true then s.raiseAlert .tareRefused 3 x else s

/-- After the CAL_PROGRESS of a run in RISING that parking breaks. -/
def State.parkAlerts (x : Time) (s : State) : State :=
  match s.wen.calibration with
  | none => s.parkRefused x
  | some c =>
    match c.run with
    | .armed _ => s.parkRefused x
    | .rising _ _ _ values =>
      (s.parkRefused x).offerE (s.progressFrame c.target (c.done + 1) values.length (.broken .parked) x)

@[simp] theorem State.parkRefused_frame (x : Time) (s : State) :
    (s.parkRefused x).wen = s.wen ∧ (s.parkRefused x).mgt.mode = s.mgt.mode ∧
    (s.parkRefused x).mgt.deferred = s.mgt.deferred ∧ (s.parkRefused x).mgt.assembly = s.mgt.assembly ∧
    (s.parkRefused x).mgt.mask = s.mgt.mask ∧ (s.parkRefused x).mgt.node = s.mgt.node := by
  unfold State.parkRefused
  split <;> simp

@[simp] theorem State.parkAlerts_frame (x : Time) (s : State) :
    (s.parkAlerts x).mgt.mode = s.mgt.mode ∧ (s.parkAlerts x).mgt.deferred = s.mgt.deferred ∧
    (s.parkAlerts x).mgt.assembly = s.mgt.assembly ∧ (s.parkAlerts x).mgt.mask = s.mgt.mask ∧
    (s.parkAlerts x).mgt.node = s.mgt.node := by
  unfold State.parkAlerts
  split
  · simp
  · split <;> simp

/-- The offers of parking change the queue of channel E alone. -/
theorem State.parkAlerts_offered (x : Time) (s : State) : ∃ fs, s.Offered (s.parkAlerts x) fs := by
  have hrefused : ∃ fs, s.Offered (s.parkRefused x) fs := by
    unfold State.parkRefused
    split
    · exact ⟨_, (State.Offered.refl s).raiseAlert rfl rfl .tareRefused 3 x⟩
    · exact ⟨_, State.Offered.refl s⟩
  obtain ⟨fs, hfs⟩ := hrefused
  unfold State.parkAlerts
  split
  · exact ⟨fs, hfs⟩
  · split
    · exact ⟨fs, hfs⟩
    · exact ⟨_, hfs.offerE _⟩

/-- A tare pass that parking cuts off latches TARE_REFUSED. -/
theorem State.parkAlerts_latches {s : State} (hw : s.wen.window.isSome = true) (ha : s.wen.tareArmed = true)
    (x : Time) :
    (s.parkAlerts x).mgt.alerts.getLsbD 8 = true := by
  have hrefused : (s.parkRefused x).mgt.alerts.getLsbD 8 = true := by
    rw [State.parkRefused, if_pos ⟨hw, ha⟩]
    exact State.raiseAlert_latches .tareRefused 3 x s
  unfold State.parkAlerts
  split
  · exact hrefused
  · split
    · exact hrefused
    · exact State.offerE_keeps _ hrefused

/-- The result of a window that parking cuts off: not weighed, and refused as a tare (R74, R82). -/
theorem Wen.result_parked (y : Wen) (w : Window) (x : Time) : (y.result w .parked x).reason = some .parked ∧
    (y.result w .parked x).cls = .notWeighed ∧ (y.result w .parked x).newTare = none ∧
    (y.result w .parked x).endTime = x := by
  rw [Wen.result_of_reason (e := .parked) rfl]
  exact ⟨rfl, rfl, rfl, rfl⟩

theorem State.endWindow_parked_alike {s t : State} (h : s.Alike t) (hw : t.wen = s.wen) (x : Time) :
    (s.parkRefused x).Alike (t.endWindow .parked x) := by
  cases hwin : s.wen.window with
  | none =>
    rw [State.endWindow_of_none (by rw [hw, hwin]), State.parkRefused, if_neg (by simp [hwin])]
    exact h
  | some w =>
    obtain ⟨hreason, hcls, htare, htime⟩ := t.wen.result_parked w x
    have hunsteady : t.raiseUnsteady (t.wen.result w .parked x) = t := if_neg (by rw [hcls]; exact fun h => nomatch h)
    have halerts : (s.parkRefused x).Alike (t.endAlerts (t.wen.result w .parked x)) := by
      unfold State.parkRefused State.endAlerts
      rw [hunsteady, htare, hreason, hcls, htime, hw, hwin]
      cases s.wen.tareArmed
      · exact h
      · exact h.raiseAlert .tareRefused 3 x
    rw [State.endWindow_eq (by rw [hw, hwin])]
    exact halerts

theorem State.interruptRun_parked_alike {s t : State} (x : Time) (h : (s.parkRefused x).Alike t)
    (hcal : t.wen.calibration = s.wen.calibration) : (s.parkAlerts x).Alike (t.interruptRun .parked x) := by
  have hnode : t.mgt.node = s.mgt.node := by
    rw [h.2]
    simp
  unfold State.parkAlerts State.interruptRun State.breakRun
  rw [hcal]
  cases s.wen.calibration with
  | none => exact h
  | some c =>
    cases hrun : c.run with
    | armed start =>
      simp only [hrun]
      exact h
    | rising th f top values =>
      simp only [hrun, State.progressFrame, ← State.displayFrame_congr hnode]
      exact State.Alike.offerE (t := t.setCal (c.broke values)) h _

/-- Parking leaves the cab port and MGT as its alerts and frames leave them, with G and P drained (R154, R179). -/
theorem State.parkWork_alike (x : Time) (s : State) :
    (s.parkWork x).cport = (s.parkAlerts x).cport.park ∧ (s.parkWork x).mgt = (s.parkAlerts x).mgt := by
  have hstart : s.Alike ((s.modDin fun d => { d with power := .parked }).modFcl Fcl.clearHolding).parkSlots :=
    ⟨rfl, rfl⟩
  have hended := State.endWindow_parked_alike hstart rfl x
  have hbroken := State.interruptRun_parked_alike x hended (by simp)
  exact ⟨congrArg Cport.park hbroken.1, hbroken.2⟩

/-! ### WEN at parking -/

theorem State.endWindow_parked_wen {s : State} {w : Window} (h : s.wen.window = some w) (x : Time) :
    (s.endWindow .parked x).wen = { s.wen with
      window := none, lastResult := some (s.wen.result w .parked x), tareArmed := false } := by
  rw [State.endWindow_eq h]
  simp only [Wen.ended, (s.wen.result_parked w x).2.2.1]
  rw [Option.getD_none, ite_self]

theorem State.endWindow_parked_keeps (x : Time) (s : State) : (s.endWindow .parked x).wen.window = none ∧
    (s.endWindow .parked x).wen.tare = s.wen.tare ∧ (s.endWindow .parked x).wen.prevTheta = s.wen.prevTheta ∧
    (s.endWindow .parked x).wen.record = s.wen.record ∧ (s.endWindow .parked x).wen.curveE = s.wen.curveE ∧
    (s.endWindow .parked x).wen.curveL = s.wen.curveL ∧ (s.endWindow .parked x).wen.bands = s.wen.bands := by
  cases h : s.wen.window with
  | none =>
    rw [State.endWindow_of_none h]
    exact ⟨h, rfl, rfl, rfl, rfl, rfl, rfl⟩
  | some w =>
    rw [State.endWindow_parked_wen h]
    exact ⟨rfl, rfl, rfl, rfl, rfl, rfl, rfl⟩

/-- What an interruption leaves of a calibration (R95, R96). -/
theorem Calibration.interrupted_eq (c : Calibration) : ∃ sums broken,
    c.interrupted = { c with sums := sums, run := .armed none, broken := broken } ∧
    (∀ start, c.run = .armed start → sums = c.sums ∧ broken = c.broken) ∧
    (∀ th f top values, c.run = .rising th f top values → broken = min 65535 (c.broken + 1)) := by
  unfold Calibration.interrupted
  split
  · rename_i values hrun
    exact ⟨_, _, rfl, ⟨fun start h => (nomatch hrun.symm.trans h), fun _ _ _ _ _ => rfl⟩⟩
  · rename_i start hrun
    exact ⟨_, _, rfl, ⟨fun _ _ => ⟨rfl, rfl⟩, fun _ _ _ _ h => (nomatch hrun.symm.trans h)⟩⟩

/-! ### Waking -/

/-- Waking offers the key-on NOTICE, and then each block takes up its work (R155). -/
theorem State.wake_eq (x : Time) (s : State) :
    let notified := s.noticeKeyOn x
    s.wake x = { notified with
      din := { s.din with power := .running }, sig := (s.wakeSlots x).sig, wen := { s.wen with prevTheta := none }
      cyt := { s.cyt with tipArmed := false }
      cport := { notified.cport with
        gauge := if s.gaugePeriod ≠ 0 then some (Time.plus x s.gaugePeriod) else none } } := by
  have hgauge : (if s.gaugePeriod ≠ 0 ∧ Power.running = .running then some (Time.plus x s.gaugePeriod) else none) =
      if s.gaugePeriod ≠ 0 then some (Time.plus x s.gaugePeriod) else none := by
    simp only [and_true]
  intro notified
  rw [← hgauge]
  have hshape : notified = { s with cport := notified.cport, mgt := { s.mgt with alerts := notified.mgt.alerts } } :=
    s.offerE_shape _
  have hwake : s.wake x = (((((notified.modDin fun d => { d with power := .running }).wakeSlots x).modWen
    fun w => { w with prevTheta := none }).modCyt fun c => { c with tipArmed := false }).restartGauge x) := rfl
  rw [hwake]
  clear_value notified
  rw [hshape]
  rfl

/-- Settles O32. -/
theorem parkingAndWaking : Obligations.ParkingAndWaking := by
  unfold Obligations.ParkingAndWaking
  refine ⟨fun x s => ⟨s.parkWork x, s.park_eq x, ?_⟩, fun x s => ?_⟩
  · obtain ⟨htime, hmport, hfcl, hsig, hdin, hcyt, hlac, -, -, -⟩ := s.parkWork_frame x
    have hwen := s.parkWork_wen x
    obtain ⟨hcport, hmgt⟩ := s.parkWork_alike x
    obtain ⟨fs, hfs⟩ := s.parkAlerts_offered x
    have hmanaged := Mgt.eq_of_frame (m := s.mgt) (m' := (s.parkAlerts x).mgt) (mode := s.mgt.mode)
      (by simp) (by simp) (by simp) (by simp) (by simp)
    obtain ⟨hwindow, htare, hprev, hrecord, hcurveE, hcurveL, hbands⟩ := s.endWindow_parked_keeps x
    refine ⟨hdin, fun i => ?_, ?_, ?_, ?_, fun r => ?_, ?_, ?_, ?_, ?_, ?_, ?_, ?_, ?_, ?_, ?_, ?_, fun hw => ?_,
      fun hw => ?_, fun hc => ?_, fun c hc => ?_, ?_, hlac, hmport, htime, ?_, fun ch hch => ?_, ?_, ?_,
      fun hw hc => ?_, ?_⟩
    · rw [hfcl]
      simp [Fcl.clearHolding]
    · rw [hfcl]
      rfl
    · rw [hfcl]
      rfl
    · rw [hfcl]
      rfl
    · rw [hsig, State.parkSlots_slot]
      simp [Slot.parked, Slot.mapped]
    · rw [hsig]
      rfl
    · rw [hsig]
      rfl
    · rw [hsig]
      rfl
    · rw [hwen]
      exact hwindow
    · rw [hwen]
    · rw [hwen]
      exact hrecord
    · rw [hwen]
      exact hcurveE
    · rw [hwen]
      exact hcurveL
    · rw [hwen]
      exact hbands
    · rw [hwen]
      exact htare
    · rw [hwen]
      exact hprev
    · rw [hwen, State.endWindow_of_none hw]
      exact ⟨rfl, rfl⟩
    · obtain ⟨w, hwin⟩ := Option.isSome_iff_exists.1 hw
      have hresult := s.wen.result_parked w x
      rw [hwen, State.endWindow_parked_wen hwin, hmgt]
      exact ⟨rfl, fun ha => State.parkAlerts_latches hw ha x, _, rfl, (s.wen.result_of w .parked x).1, hresult.1,
        hresult.2.2.2⟩
    · rw [hwen, hc]
      rfl
    · obtain ⟨sums, broken, hinterrupted, harmed, hrising⟩ := c.interrupted_eq
      refine ⟨sums, broken, ?_, harmed, hrising⟩
      rw [hwen, hc, ← hinterrupted]
      rfl
    · rw [hcyt]
      rfl
    · rw [hmgt]
      exact hmanaged
    · rw [hcport, hfs]
      rcases hch with rfl | rfl <;> rfl
    · rw [hcport]
      rfl
    · rw [hcport, hfs]
      rfl
    · have hnone : s.parkAlerts x = s := by
        simp only [State.parkAlerts, hc, State.parkRefused, hw]
        rfl
      rw [hcport, hmgt, hnone]
      exact ⟨rfl, rfl⟩
    · intro refused broken
      have hrefused : refused = s.parkRefused x :=
        ite_congr rfl (fun _ => (State.raiseAlert_eq .tareRefused 3 x s).symm) fun _ => rfl
      have hbroken : broken = s.parkAlerts x := by
        simp only [broken, ← State.offerE_eq, hrefused]
        rfl
      rw [hcport, hmgt, hbroken]
      exact ⟨rfl, rfl⟩
  · intro notified
    refine ⟨(s.wakeSlots x).sig, ?_, rfl, rfl, rfl, fun r => ?_⟩
    · rw [s.wake_eq x]
      have hgauge : (if s.gaugePeriod ≠ 0 then some (Time.plus x s.gaugePeriod) else none) =
          match s.wen.record with
          | some r => if r.gaugePeriod = 0 then none else some (Time.plus x r.gaugePeriod)
          | none => none := by
        unfold State.gaugePeriod
        cases s.wen.record with
        | none => rfl
        | some r => by_cases h : r.gaugePeriod = 0 <;> simp [h]
      rw [hgauge]
      rfl
    · rw [State.wakeSlots_slot]
      cases hsource : (s.sig.slot r).source <;> simp [Slot.mapped, hsource, awaitingLoss, lossDelay]

end Sys2Proof.Machine
end
